-- ==== Sys2Proof/Word.lean ====
section
/-!
DEFINITION. The word types of the block (spec/00_scope.md R9, R12): 8-bit data, 16-bit addresses, four channels.
All arithmetic is unsigned (R13); `BitVec` arithmetic is modulo `2^N`, `Nat` arithmetic is exact.
-/
namespace Sys2Proof

/-- A byte: every datum the block moves (R9, R65). -/
abbrev Byte := BitVec 8

/-- A host bus address (R9, R60). -/
abbrev Addr := BitVec 16

/-- A channel number 0..3 (R18). -/
abbrev Chan := Fin 4

end Sys2Proof
end

