-- ==== Sys2Proof/Config.lean ====
section
/-!
DEFINITION. What an implementation fixes: the named parameters of spec/00_scope.md R8, as plain data, so that a claim can
quantify over them; their values at reset (the defaults of R8); and the free values, which nothing constrains.
-/
namespace Sys2Proof

/-- What a timer step does to a counter already at 0 (R121, D5). -/
inductive TimerUnderflow | wrap | saturate
deriving DecidableEq, Repr

/-- How many elapsed periods one NOTE_ELAPSED converts (R181, D12). -/
inductive SchedCatchup | all | once
deriving DecidableEq, Repr

/-- Where elapsed-time accounting runs (R216, D16). -/
inductive AccountPolicy | lowCpuActive | lowAny | everyIteration
deriving DecidableEq, Repr

/-- A row of the distortion table: 16 bits, one for each noise index (R160). The all-ones row has a constructor of its own,
because R160 distinguishes exactly it; `mixed m` is the row whose bit `n` is bit `n` of `m`, for a mask `m` below 0xFFFF.
Every 16-bit row is one of the two, in one way. -/
inductive DistRow
  | allOnes
  | mixed (mask : Fin 65535)
deriving DecidableEq, Repr

/-- The row whose entry `n` is bit `n` of `mask` (R161 writes rows so). -/
def DistRow.ofMask (mask : BitVec 16) : DistRow :=
  if h : mask.toNat < 65535 then .mixed ⟨mask.toNat, h⟩ else .allOnes

/-- The parameters of R8, but for the ROM image, which State holds as its memory. Any value can be written here, the
ones R8 forbids included: a state that holds such values is refused (R233, `badConfig`). -/
structure Params where
  romBase        : Addr
  romSize        : Nat
  regWindowBase  : Addr
  schedPeriod    : Nat
  schedUnit      : Nat
  debtMax        : Nat
  schedCatchup   : SchedCatchup
  cycleBits      : Nat
  accountPolicy  : AccountPolicy
  timerUnderflow : TimerUnderflow
  /-- `DIST_TABLE`, a row for each distortion mode 0..7. -/
  dist           : Vector DistRow 8
  muteGated      : Bool
  /-- `OUTPUT_SCALE`, a function from byte to byte: the bytes it does not map to themselves, each with its value. -/
  outputScale    : List Host.Cell
  glitchFilter   : Bool
deriving DecidableEq, Repr

/-- Free value (log entry 4): `SCHED_PERIOD` less one at reset. R8 leaves the period OPEN and asks only that it be at least 1. -/
opaque Config.periodBelow : Nat

/-- Free value (log entry 4): the six rows of `DIST_TABLE` at reset that R160 leaves OPEN, each any row that is not all ones. -/
opaque Config.distRow : Fin 8 → Fin 65535

/-- Free value (log entry 6): the cycle-counter value when the loop starts (R261). -/
opaque Config.resetCycle : Nat

/-- Free value (log entry 8): a byte-wide result the spec does not state, one for each use. -/
opaque Config.freeByte : Nat → Byte

/-- Free value (log entry 2): the BUS word (data, CPU active, write strobe, address) of the environment's `n`-th draw (R200). -/
opaque Config.drawBus : Nat → BitVec 26

/-- Free value (log entry 2): the cycle-counter value of the environment's `n`-th draw (R180). -/
opaque Config.drawCycle : Nat → Nat

/-- Free value (log entry 2): the second address sample of the environment's `n`-th draw (R200). -/
opaque Config.drawSecond : Nat → Addr

/-- The parameters at reset: the defaults of R8, and free values where R8 says OPEN. -/
def Params.atReset : Params where
  romBase        := 0x4000
  romSize        := 49152
  regWindowBase  := 0x0460
  schedPeriod    := Config.periodBelow + 1
  schedUnit      := 1
  debtMax        := 2000
  schedCatchup   := .all
  cycleBits      := 32
  accountPolicy  := .lowCpuActive
  timerUnderflow := .wrap
  dist           := #v[.mixed (Config.distRow 0), .mixed (Config.distRow 1), .mixed (Config.distRow 2),
                      .mixed (Config.distRow 3), .mixed (Config.distRow 4), .allOnes, .mixed (Config.distRow 6), .allOnes]
  muteGated      := true
  outputScale    := []
  glitchFilter   := false

/-- PRESUMED: the suggested distortion table of R161, from general knowledge and not normative. Only the test vectors that
say so use it; nothing else of the model does. -/
def Params.suggestedDist : Vector DistRow 8 :=
  #v[.ofMask 0xCC00, .ofMask 0xCCCC, .ofMask 0x8888, .ofMask 0xCCCC, .ofMask 0xFF00, .allOnes, .ofMask 0xAAAA, .allOnes]

end Sys2Proof
end

