-- ==== Sys2Proof/Syntax.lean ====
section
/-!
DEFINITION. The instructions (one constructor for each mnemonic of spec/opcode_table.json) and the encoded words the block
is handed (spec/30_encoding.md R80): the formats CMD, BUS, TICK, NOISE, TIMER and MIX. The CTL format is a register's
contents, not an instruction.
-/
namespace Sys2Proof

/-- One sample of the host bus: the fields of a BUS word (R81). -/
structure BusSample where
  /-- `D`: the byte on the data lines, as the host drives them. -/
  data       : Byte
  /-- `C`: the host CPU owns the bus. -/
  cpuActive  : Bool
  /-- `W`: the current bus cycle is a write. -/
  write      : Bool
  /-- `A`: the sampled address. -/
  addr       : Addr
deriving DecidableEq, Repr

/-- The instructions. Cycle counts (`t`, `c0`) are `CYCLE_BITS`-bit values, written as naturals, since `CYCLE_BITS` is a
parameter; `a2` is the second address sample, read only when `GLITCH_FILTER` is on (R81). -/
inductive Instr
  -- CMD format (R86)
  | reset
  | writeDiv (c : Chan) (v : Byte)
  | writeCtl (c : Chan) (v : Byte)
  | writeReg8 (v : Byte)
  | writeStimer (v : Byte)
  | writePlain (idx : BitVec 4) (v : Byte)
  | advance
  | currentOutput
  | noteElapsed (t : Nat)
  | consume
  | busIterate (b : BusSample) (t : Nat) (a2 : Addr)
  | blockReset (c0 : Nat)
  /-- A CMD word with bit 15 set; `low` is the word's bits 14..0 (R89). -/
  | reservedOp (low : BitVec 15)
  -- BUS format (R87)
  | busRom (b : BusSample) (t : Nat) (a2 : Addr)
  | busRegWrite (b : BusSample) (t : Nat) (a2 : Addr)
  | busLowActive (b : BusSample) (t : Nat) (a2 : Addr)
  | busLowDma (b : BusSample) (t : Nat) (a2 : Addr)
  -- TICK format (R88)
  | tickStep0
  | tickTimer0
  | tickTimer1
  | tickTimer2
  | tickTimer3
  | tickMix0
  | tickMix1
  | tickMix2
  | tickMix3Final
  | tickReserved (v : BitVec 4)
  -- NOISE format (R88)
  | lfsr4Step
  | lfsr5Step
  | lfsr9Step
  | lfsr17Step
  -- TIMER and MIX formats (R88)
  | timerStep (c : Chan)
  | mixStep (c : Chan)
  /-- The micro-operation WRITE_STIMER issues (R125); `v` is the VAL field of the issuing word, which the reload ignores. -/
  | stimerReload (v : Byte)
deriving DecidableEq, Repr

/-- An encoded instruction as it is handed to the block: its format, its word, and the operands that go beside the word
(R81, R82). A CMD word carries every operand that some operation takes beside it (`bus`, `t`, `a2`; `t` is also the `c0` of
BLOCK_RESET); an operation reads only its own. `reload` marks the micro-operation STIMER_RELOAD, which has no encoding of
its own (R125): its word is the VAL field of the WRITE_STIMER word that issues it (log entry 9). -/
inductive Input
  | cmd (word : BitVec 16) (bus : BitVec 26) (t : Nat) (a2 : Addr)
  | bus (word : BitVec 26) (t : Nat) (a2 : Addr)
  | tick (word : BitVec 4)
  | noise (word : BitVec 2)
  | timer (word : BitVec 2)
  | mix (word : BitVec 2)
  | reload (val : Byte)
deriving DecidableEq, Repr

/-- The operations a caller can ask for: an interface operation (CMD) or one iteration on a bus sample (BUS). The other
formats are micro-operations, which only the sequencer and WRITE_STIMER issue (R3). -/
def Input.isInterface : Input → Bool
  | .cmd _ _ _ _ | .bus _ _ _ => true
  | .tick _ | .noise _ | .timer _ | .mix _ | .reload _ => false

end Sys2Proof
end

