-- ==== Sys2Proof/Machine/BusMap.lean ====
section
/-!
DEFINITION. The host address map and the classes of bus samples (spec/20_memory.md R61; spec/30_encoding.md R84, R87;
spec/44_bus_arbiter.md R201, R202), as functions of the parameters, and the constraints on the parameters (spec/00_scope.md R8).
-/
namespace Sys2Proof.Machine

/-- `region(A) = ROM` (R201): the address is at or above `ROM_BASE`. -/
def inRom (p : Params) (a : Addr) : Bool := decide (p.romBase.toNat ≤ a.toNat)

/-- `inWindow(A)` (R202): `A[15:4] = REG_WINDOW_BASE[15:4]`. -/
def inWindow (p : Params) (a : Addr) : Bool := a.extractLsb' 4 12 == p.regWindowBase.extractLsb' 4 12

/-- The register index of a bus address: `A[3:0]` (R84). -/
def regIndex (a : Addr) : BitVec 4 := a.extractLsb' 0 4

/-- The classes of bus samples (R87). -/
inductive BusClass | rom | regWrite | lowActive | lowDma
deriving DecidableEq, Repr

/-- The class of a bus sample: the first that matches, in the order of R87. -/
def classify (p : Params) (b : BusSample) : BusClass :=
  if inRom p b.addr then .rom
  else if b.cpuActive && b.write && inWindow p b.addr then .regWrite
  else if b.cpuActive then .lowActive
  else .lowDma

/-- The row is all ones (R160). -/
def distRowPure : DistRow → Bool
  | .allOnes => true
  | .mixed _ => false

/-- R160: rows 5 and 7 are all ones and no other row is. -/
def distValid (d : Vector DistRow 8) : Bool :=
  distRowPure d[5] && distRowPure d[7] &&
    !(distRowPure d[0] || distRowPure d[1] || distRowPure d[2] || distRowPure d[3] || distRowPure d[4] || distRowPure d[6])

/-- The constraints of R8. Parameters that break one are refused with BadConfig (R233, X4). -/
def paramsValid (p : Params) : Bool :=
  decide (p.regWindowBase.toNat + 15 < p.romBase.toNat) &&
  p.regWindowBase.extractLsb' 0 4 == 0 &&
  decide (1 ≤ p.romSize) && decide (p.romBase.toNat + p.romSize ≤ 0x10000) &&
  decide (1 ≤ p.schedPeriod) &&
  (p.schedUnit == 1 || p.schedUnit == 9) &&
  decide (p.schedUnit ≤ p.debtMax) &&
  decide (1 ≤ p.cycleBits) &&
  distValid p.dist

end Sys2Proof.Machine
end

