-- ==== Sys2Proof/Machine/State.lean ====
section
/-!
DEFINITION. The state of the block (spec/10_state.md R20-R43), its parameters (R42) and the model's bookkeeping (R41), as
plain data; the reasons a step can stop; and the state after reset (R43, spec/70_reset_and_hazards.md R261).
-/
namespace Sys2Proof.Machine

/-- The model-only faults (R232): sticky marks kept in `State.faulted`, which change none of the block's behaviour. No step
ends with one. -/
inductive Fault
  /-- Added by an iteration of the bus arbiter in the ROM region with the write strobe set (R210, R220): the host broke its
  duty (R270). SAFE: it only takes claims away, from runs with such a write. -/
  | hostWriteInRomRegion
deriving DecidableEq, Repr

/-- Why an input or a state has no step (R233). -/
inductive Refusal
  /-- Answered by an arm of `exec` for an instruction without a meaning yet: none at present. SAFE: no claim about it. -/
  | notModelled (mnemonic : String)
  /-- Answered by RESERVED_OP, a CMD operation code of 8..15 (R89, R233). SAFE: the spec gives it no meaning and no step. -/
  | reservedOp
  /-- Answered by `step` for a CMD word with a non-zero IDX or VAL outside WRITE_REG (R89, R233). SAFE: as above. -/
  | reservedBits
  /-- Answered by `step` for a state with `step > 8`, by ADVANCE and the LOW-region iterations when they would advance from
  such a state, and by TICK_RESERVED (R89, R150, R233). SAFE: unreachable from reset by the block's operations. -/
  | badTickState
  /-- Answered by `step` for parameters that break a constraint of R8 (R233, X4). SAFE: the spec gives them no meaning. -/
  | badConfig
deriving DecidableEq, Repr

/-- The output events (R14, R203). -/
inductive Event
  | driveData (b : Byte)
  | releaseBus
  | emitSample (b : Byte)
deriving DecidableEq, Repr

/-- What an operation returns to its caller: nothing, the boolean of ADVANCE (R33) and CONSUME (R184), or the byte of
CURRENT_OUTPUT (R157). -/
inductive Result
  | unit
  | bool (b : Bool)
  | byte (v : Byte)
deriving DecidableEq, Repr

/-- A channel of the timer bank (R25). -/
structure Channel where
  divisor : Byte
  counter : Byte
  out     : Bool
deriving DecidableEq, Repr

/-- Memory: the bytes of the ROM image that differ from what an unlisted offset reads as, by rising offset. -/
abbrev Memory := List Host.Cell

/-- The machine. -/
@[ext]
structure State where
  /-- `reg[0..15]` (R20). -/
  regs        : Vector Byte 16
  /-- `ch[0..3]` (R25). -/
  ch          : Vector Channel 4
  /-- `lfsr[4]`, `lfsr[5]`, `lfsr[9]`, `lfsr[17]` (R28). -/
  lfsr4       : BitVec 4
  lfsr5       : BitVec 5
  lfsr9       : BitVec 9
  lfsr17      : BitVec 17
  /-- The tick state (R30). -/
  step        : BitVec 4
  /-- The per-cycle accumulator (R31). -/
  acc         : Byte
  /-- The cached sample (R32). -/
  sample      : Byte
  /-- Owed synthesis steps (R34). -/
  debt        : Nat
  /-- The counter value up to which time is accounted for (R35), a `CYCLE_BITS`-bit value. -/
  lastSampled : Nat
  /-- DRIVING or LISTENING (R36). -/
  driving     : Bool
  /-- The sticky set of fault reasons (R41, R232), each listed once. -/
  faulted     : List Fault
  /-- The sticky refusal mark (R41, R233). -/
  refused     : Option Refusal
  /-- The event history, oldest first (R41). -/
  events      : List Event
  /-- The ROM image (R42, R62), keyed by offset. -/
  rom         : Memory
  /-- The parameters (R8, R42). -/
  cfg         : Params
  /-- MODEL: what the last operation returned (log entry 3). -/
  result      : Result
  /-- MODEL: what the environment has placed and the block has not run yet, oldest first (log entry 1). -/
  inputs      : List Input
  /-- MODEL: the index of the next free value (log entries 2, 8). -/
  fresh       : Nat
deriving DecidableEq, Repr

/-- The state after a whole-block reset at power-on (R43, R261). -/
def State.reset : State where
  regs        := Vector.replicate 16 0
  ch          := Vector.replicate 4 { divisor := 0, counter := 0, out := false }
  lfsr4       := 0xF
  lfsr5       := 0x1F
  lfsr9       := 0x1FF
  lfsr17      := 0x1FFFF
  step        := 0
  acc         := 0
  sample      := 0
  debt        := 0
  lastSampled := Config.resetCycle % 2 ^ 32
  driving     := false
  faulted     := []
  refused     := none
  events      := []
  rom         := []
  cfg         := Params.atReset
  result      := .unit
  inputs      := []
  fresh       := 0

end Sys2Proof.Machine
end

