-- ==== Sys2Proof/Machine/Ops.lean ====
section
/-!
DEFINITION. The named operations over memory, registers, channels and events that every meaning is built from.
The block takes no exception (spec/60_exceptions.md R230, R236, R237): there is no entry to save state in and no return.
-/
namespace Sys2Proof.Machine

/-- The value at key `k` of a sparse table whose unlisted keys have the value `dflt` gives. -/
def cellsRead (dflt : Nat → Byte) : List Host.Cell → Nat → Byte
  | [], k => dflt k
  | (a, b) :: rest, k => if a = k then b else cellsRead dflt rest k

/-- The table with `v` at key `k`, in canonical form again: the value an unlisted key has is not listed. -/
def cellsWrite (dflt : Nat → Byte) : List Host.Cell → Nat → Byte → List Host.Cell
  | [], k, v => if v = dflt k then [] else [(k, v)]
  | (a, b) :: rest, k, v =>
    if k < a then (if v = dflt k then (a, b) :: rest else (k, v) :: (a, b) :: rest)
    else if k = a then (if v = dflt k then rest else (k, v) :: rest)
    else (a, b) :: cellsWrite dflt rest k v

/-- Keys strictly rising, from `lo` on and below `bound`, and no value that an unlisted key has. -/
def cellsWfFrom (dflt : Nat → Byte) (bound : Nat) : Nat → List Host.Cell → Bool
  | _, [] => true
  | lo, (a, b) :: rest =>
    decide (lo ≤ a) && decide (a < bound) && decide (b ≠ dflt a) && cellsWfFrom dflt bound (a + 1) rest

/-- What an unlisted offset of the ROM image reads as (log entry 5). -/
def romUnlisted : Nat → Byte := fun _ => 0xFF

/-- `RomRead(offset)`, a byte of the ROM image (R14, R62). -/
def Memory.read (m : Memory) (off : Nat) : Byte := cellsRead romUnlisted m off

/-- The ROM image with one byte placed. Only the outside loads the image (R64): no instruction calls this. -/
def Memory.write (m : Memory) (off : Nat) (v : Byte) : Memory := cellsWrite romUnlisted m off v

/-- The canonical form of a ROM image of `size` bytes. -/
def Memory.wf (size : Nat) (m : Memory) : Bool := cellsWfFrom romUnlisted size 0 m

/-- The ROM image loaded from outside with `v` at `off`; an offset beyond the image places nothing. -/
def State.placeRom (s : State) (off : Nat) (v : Byte) : State :=
  if off < s.cfg.romSize then { s with rom := s.rom.write off v } else s

/-- `romByte(a)` (R62), total on all addresses. -/
def romByte (s : State) (a : Addr) : Byte :=
  if s.cfg.romBase.toNat ≤ a.toNat ∧ a.toNat - s.cfg.romBase.toNat < s.cfg.romSize then
    s.rom.read (a.toNat - s.cfg.romBase.toNat)
  else 0xFF

/-- `reg[idx]` (R14). -/
def State.reg (s : State) (idx : BitVec 4) : Byte := s.regs[idx.toNat]

/-- `reg[idx] <- v` (R14, R142). -/
def State.setReg (s : State) (idx : BitVec 4) (v : Byte) : State := { s with regs := s.regs.set idx.toNat v }

/-- `ch[c] <- x` (R14). -/
def State.setChannel (s : State) (c : Chan) (x : Channel) : State := { s with ch := s.ch.set c x }

/-- `emit e` (R14): an event appended to the history. -/
def State.emit (s : State) (e : Event) : State := { s with events := s.events ++ [e] }

/-- The operation returns `r` to its caller. -/
def State.returning (s : State) (r : Result) : State := { s with result := r }

/-- `OUTPUT_SCALE(v)` (R8, R215). -/
def outputScale (p : Params) (v : Byte) : Byte := cellsRead (BitVec.ofNat 8) p.outputScale v.toNat

/-- The free byte that stands for a result the spec does not state; its user advances `fresh` (log entry 8). -/
def freeByte (s : State) : Byte := Config.freeByte s.fresh

/-- `EngineReset()` (R140): the engine's state, and nothing of the scheduler or the arbiter. -/
def engineReset (s : State) : State :=
  { s with
    regs := Vector.replicate 16 0
    ch := Vector.replicate 4 { divisor := 0, counter := 0, out := false }
    lfsr4 := 0xF, lfsr5 := 0x1F, lfsr9 := 0x1FF, lfsr17 := 0x1FFFF
    step := 0, acc := 0, sample := 0 }

/-- The cycle count reduced to `CYCLE_BITS` bits (R35). -/
def wrapCycles (p : Params) (t : Nat) : Nat := t % 2 ^ p.cycleBits

/-- `BlockReset(c0)` (R260, R186). The fault and refusal marks and the event history stay. -/
def blockReset (c0 : Nat) (s : State) : State :=
  { engineReset s with debt := 0, lastSampled := wrapCycles s.cfg c0, driving := false }

end Sys2Proof.Machine
end

