-- ==== Sys2Proof/Machine/Operands.lean ====
section
/-!
DEFINITION. Every operand form of the spec: the fields of a control byte (spec/30_encoding.md R83), the noise index and the
distortion-table entry (R85, spec/40_noise_generators.md R106, spec/42_synthesis_engine.md R160), the elapsed count
(spec/43_scheduler.md R181) and the scaled sample (R156).
-/
namespace Sys2Proof.Machine

/-- `DIST`, bits 7..5 of a control byte (R23, R83). -/
def ctlDist (v : Byte) : BitVec 3 := v.extractLsb' 5 3

/-- `MUTE`, bit 4 of a control byte (R23, R83). -/
def ctlMute (v : Byte) : Bool := v.getLsbD 4

/-- `VOL`, bits 3..0 of a control byte (R23, R83). -/
def ctlVol (v : Byte) : BitVec 4 := v.extractLsb' 0 4

/-- `CTLc = reg[2c + 1]` (R21, R23). -/
def State.ctl (s : State) (c : Chan) : Byte := s.regs[2 * c.val + 1]

/-- The noise index (R106): bit 0 from the 4-bit generator, bit 1 the 5-bit, bit 2 the 9-bit, bit 3 the 17-bit. -/
def noiseIndex (s : State) : BitVec 4 :=
  BitVec.ofBool (s.lfsr17.getLsbD 0) ++ BitVec.ofBool (s.lfsr9.getLsbD 0) ++
    BitVec.ofBool (s.lfsr5.getLsbD 0) ++ BitVec.ofBool (s.lfsr4.getLsbD 0)

/-- Entry `n` of a row of the distortion table (R160). -/
def distEntry (r : DistRow) (n : BitVec 4) : Bool :=
  match r with
  | .allOnes => true
  | .mixed m => m.val.testBit n.toNat

/-- `DIST_TABLE(mode, nidx)` (R85, R160). -/
def distTable (p : Params) (mode : BitVec 3) (nidx : BitVec 4) : Bool := distEntry p.dist[mode.toNat] nidx

/-- `(T - lastSampled) mod 2^CYCLE_BITS` (R181). -/
def elapsed (s : State) (t : Nat) : Nat := (((t : Int) - (s.lastSampled : Int)) % (2 ^ s.cfg.cycleBits : Nat)).toNat

/-- Whole periods elapsed: `delta // SCHED_PERIOD` (R181). -/
def periods (s : State) (t : Nat) : Nat := elapsed s t / s.cfg.schedPeriod

/-- `Scale(s) = (s << 2) + (s >> 2)`, exact (R156). -/
def scaleNat (n : Nat) : Nat := n * 4 + n / 4

end Sys2Proof.Machine
end

