-- ==== Sys2Proof/Machine/Scheduler.lean ====
section
/-!
DEFINITION. The elastic scheduler (spec/43_scheduler.md): NOTE_ELAPSED and CONSUME.
-/
namespace Sys2Proof.Machine

/-- `n` elapsed periods turned into debt (R181, R183): the debt clamped, the phase moved by whole periods. -/
def creditPeriods (n : Nat) (s : State) : State :=
  { s with
    debt := min s.cfg.debtMax (s.debt + n * s.cfg.schedUnit)
    lastSampled := wrapCycles s.cfg (s.lastSampled + n * s.cfg.schedPeriod) }

/-- `NoteElapsed(T)` (R181). -/
def noteElapsed (t : Nat) (s : State) : State :=
  match s.cfg.schedCatchup with
  | .all => creditPeriods (periods s t) s
  | .once => if s.cfg.schedPeriod ≤ elapsed s t then creditPeriods 1 s else s

/-- Whether `ConsumeIfAvailable()` returns true (R184). -/
def debtOwed (s : State) : Bool := decide (0 < s.debt)

/-- The state after `ConsumeIfAvailable()` (R184): one unit less, never below 0. -/
def consumeOne (s : State) : State := if debtOwed s then { s with debt := s.debt - 1 } else s

/-- NOTE_ELAPSED T (R181). -/
def execNoteElapsed (t : Nat) (s : State) : Host.Outcome State Fault Refusal := .next ((noteElapsed t s).returning .unit)

/-- CONSUME (R184). -/
def execConsume (s : State) : Host.Outcome State Fault Refusal := .next ((consumeOne s).returning (.bool (debtOwed s)))

end Sys2Proof.Machine
end

