-- ==== Sys2Proof/Machine/Flags.lean ====
section
/-!
DEFINITION. The boolean state and marks (spec/10_state.md R39, R41): a channel's output bit, the driving flag, the sticky
fault mark, and the gate that decides whether a channel's output contributes. There is no condition-code register (R38).
-/
namespace Sys2Proof.Machine

/-- `ch[c].out <- not ch[c].out` and the counter reloaded from the divisor, when the counter has reached zero (R121). -/
def reloadAtZero (x : Channel) : Channel :=
  if x.counter = 0 then { x with counter := x.divisor, out := !x.out } else x

/-- `ch[c].out <- true`, for a muted channel (R121, R122). -/
def forceHigh (x : Channel) : Channel := { x with out := true }

/-- `driving <- d` (R36). -/
def State.setDriving (s : State) (d : Bool) : State := { s with driving := d }

/-- `raise Fault(reason)`: the reason joins the sticky set (R14, R232). -/
def State.markFault (s : State) (f : Fault) : State :=
  { s with faulted := if f ∈ s.faulted then s.faulted else s.faulted ++ [f] }

/-- The gate `g` of channel `c` (R162, R163): the distortion table's entry, or 1 for a muted channel that is not gated. -/
def gate (s : State) (c : Chan) : Bool :=
  (ctlMute (s.ctl c) && !s.cfg.muteGated) || distTable s.cfg (ctlDist (s.ctl c)) (noiseIndex s)

/-- Channel `c` contributes to this cycle's sum: its output bit is set and its gate is 1 (R162). -/
def contributes (s : State) (c : Chan) : Bool := s.ch[c].out && gate s c

end Sys2Proof.Machine
end

