-- ==== Sys2Proof/Machine/Timer.lean ====
section
/-!
DEFINITION. The channel timer bank (spec/41_channel_timers.md): TIMER_STEP and STIMER_RELOAD.
-/
namespace Sys2Proof.Machine

/-- The counter after the decrement of a timer step (R121): WRAP takes 0 to 255, SATURATE leaves 0. -/
def decrementCounter (u : TimerUnderflow) (n : Byte) : Byte :=
  match u with
  | .wrap => n - 1
  | .saturate => if n = 0 then 0 else n - 1

/-- A channel after its timer step, muted or not (R121). -/
def timerChannel (u : TimerUnderflow) (mute : Bool) (x : Channel) : Channel :=
  if mute then forceHigh x else reloadAtZero { x with counter := decrementCounter u x.counter }

/-- `TimerStep(c)` (R121). -/
def timerStep (c : Chan) (s : State) : State :=
  s.setChannel c (timerChannel s.cfg.timerUnderflow (ctlMute (s.ctl c)) s.ch[c])

/-- `ch[c].counter <- ch[c].divisor` for one channel (R125). -/
def reloadChannel (x : Channel) : Channel := { x with counter := x.divisor }

/-- `STIMER_RELOAD` (R125): all four counters, as one update. -/
def stimerReload (s : State) : State :=
  { s with ch := #v[reloadChannel s.ch[0], reloadChannel s.ch[1], reloadChannel s.ch[2], reloadChannel s.ch[3]] }

/-- TIMER_STEP c (R121). -/
def execTimerStep (c : Chan) (s : State) : Host.Outcome State Fault Refusal := .next ((timerStep c s).returning .unit)

/-- STIMER_RELOAD (R125); the issuing word's VAL is ignored. -/
def execStimerReload (_v : Byte) (s : State) : Host.Outcome State Fault Refusal := .next ((stimerReload s).returning .unit)

end Sys2Proof.Machine
end

