-- ==== Sys2Proof/Machine/Engine.lean ====
section
/-!
DEFINITION. The synthesis engine's interface (spec/42_synthesis_engine.md R140-R149, R156-R163): RESET, the five classes of
register write, CURRENT_OUTPUT and MIX_STEP; and the whole-block reset (spec/70_reset_and_hazards.md R260).
-/
namespace Sys2Proof.Machine

/-- The divisor of channel `c` becomes `v` (R143, R126). -/
def setDivisor (s : State) (c : Chan) (v : Byte) : State := s.setChannel c { s.ch[c] with divisor := v }

/-- The index of DIVc (R21). -/
def divIndex (c : Chan) : BitVec 4 := BitVec.ofNat 4 (2 * c.val)

/-- The index of CTLc (R21). -/
def ctlIndex (c : Chan) : BitVec 4 := BitVec.ofNat 4 (2 * c.val + 1)

/-- A write to DIVc: `reg[2c] <- v; ch[c].divisor <- v` (R143). -/
def writeDiv (c : Chan) (v : Byte) (s : State) : State := setDivisor (s.setReg (divIndex c) v) c v

/-- A write to STIMER: `reg[9] <- v; STIMER_RELOAD` (R146). -/
def writeStimer (v : Byte) (s : State) : State := stimerReload (s.setReg 9 v)

/-- `writeRegister(idx, v)` (R142), the operation the bus sniff calls (R213): the raw value stored, then the effect of the
index's class (R143-R147). -/
def writeRegister (idx : BitVec 4) (v : Byte) (s : State) : State :=
  if idx = 9 then writeStimer v s
  else if idx.getLsbD 3 then s.setReg idx v
  else if idx.getLsbD 0 then s.setReg idx v
  else writeDiv (idx.extractLsb' 1 2).toFin v s

/-- The accumulator after `vol` is added (R162). A sum above 255 is not stated by the spec: the accumulator is then a free
byte (log entry 8). -/
def addToAcc (s : State) (vol : BitVec 4) : State :=
  if s.acc.toNat + vol.toNat ≤ 255 then { s with acc := s.acc + vol.setWidth 8 }
  else { s with acc := freeByte s, fresh := s.fresh + 1 }

/-- `MixStep(c)` (R162). -/
def mixStep (c : Chan) (s : State) : State := if contributes s c then addToAcc s (ctlVol (s.ctl c)) else s

/-- `Finalize()`: `sample <- Scale(acc)` (R155, R156). The scale of a sum above 60 does not fit a byte and is not stated: the
sample is then a free byte (log entry 8). -/
def finalize (s : State) : State :=
  if s.acc.toNat ≤ 60 then { s with sample := BitVec.ofNat 8 (scaleNat s.acc.toNat) }
  else { s with sample := freeByte s, fresh := s.fresh + 1 }

/-- RESET (R140). -/
def execReset (s : State) : Host.Outcome State Fault Refusal := .next ((engineReset s).returning .unit)

/-- WRITE_DIV (R143). -/
def execWriteDiv (c : Chan) (v : Byte) (s : State) : Host.Outcome State Fault Refusal :=
  .next ((writeDiv c v s).returning .unit)

/-- WRITE_CTL (R144). -/
def execWriteCtl (c : Chan) (v : Byte) (s : State) : Host.Outcome State Fault Refusal :=
  .next ((s.setReg (ctlIndex c) v).returning .unit)

/-- WRITE_REG8 (R145). -/
def execWriteReg8 (v : Byte) (s : State) : Host.Outcome State Fault Refusal := .next ((s.setReg 8 v).returning .unit)

/-- WRITE_STIMER (R146). -/
def execWriteStimer (v : Byte) (s : State) : Host.Outcome State Fault Refusal := .next ((writeStimer v s).returning .unit)

/-- WRITE_PLAIN (R147). -/
def execWritePlain (idx : BitVec 4) (v : Byte) (s : State) : Host.Outcome State Fault Refusal :=
  .next ((s.setReg idx v).returning .unit)

/-- CURRENT_OUTPUT (R157): the cached sample is returned, and nothing else changes. -/
def execCurrentOutput (s : State) : Host.Outcome State Fault Refusal := .next (s.returning (.byte s.sample))

/-- MIX_STEP c (R162). -/
def execMixStep (c : Chan) (s : State) : Host.Outcome State Fault Refusal := .next ((mixStep c s).returning .unit)

/-- BLOCK_RESET c0 (R260). -/
def execBlockReset (c0 : Nat) (s : State) : Host.Outcome State Fault Refusal := .next ((blockReset c0 s).returning .unit)

end Sys2Proof.Machine
end

