-- ==== Sys2Proof/Machine/Noise.lean ====
section
/-!
DEFINITION. The noise generators (spec/40_noise_generators.md): LFSR4_STEP, LFSR5_STEP, LFSR9_STEP, LFSR17_STEP.
-/
namespace Sys2Proof.Machine

/-- `LfsrStep(w, a, b, s)` (R100): shift left, the feedback of the two tap bits in at bit 0, the top bit discarded. -/
def lfsrStep {w : Nat} (a b : Nat) (v : BitVec w) : BitVec w :=
  (v <<< 1) ||| (BitVec.ofBool (v.getLsbD a ^^ v.getLsbD b)).setWidth w

/-- The 4-bit generator's step, taps 3 and 2 (R101). -/
def stepLfsr4 (s : State) : State := { s with lfsr4 := lfsrStep 3 2 s.lfsr4 }

/-- The 5-bit generator's step, taps 4 and 2 (R102). -/
def stepLfsr5 (s : State) : State := { s with lfsr5 := lfsrStep 4 2 s.lfsr5 }

/-- The 9-bit generator's step, taps 8 and 4 (R103). -/
def stepLfsr9 (s : State) : State := { s with lfsr9 := lfsrStep 8 4 s.lfsr9 }

/-- The 17-bit generator's step, taps 16 and 13 (R104). -/
def stepLfsr17 (s : State) : State := { s with lfsr17 := lfsrStep 16 13 s.lfsr17 }

/-- LFSR4_STEP (R101). -/
def execLfsr4Step (s : State) : Host.Outcome State Fault Refusal := .next ((stepLfsr4 s).returning .unit)

/-- LFSR5_STEP (R102). -/
def execLfsr5Step (s : State) : Host.Outcome State Fault Refusal := .next ((stepLfsr5 s).returning .unit)

/-- LFSR9_STEP (R103). -/
def execLfsr9Step (s : State) : Host.Outcome State Fault Refusal := .next ((stepLfsr9 s).returning .unit)

/-- LFSR17_STEP (R104). -/
def execLfsr17Step (s : State) : Host.Outcome State Fault Refusal := .next ((stepLfsr17 s).returning .unit)

end Sys2Proof.Machine
end

