-- ==== Sys2Proof/Machine/Tick.lean ====
section
/-!
DEFINITION. The tick sequencer (spec/42_synthesis_engine.md R150-R155; spec/30_encoding.md R88, R89): ADVANCE, the nine tick
steps and TICK_RESERVED. A tick step `t` performs the micro-operations of tick state `t` and leaves the sequencer at the next
tick state, as ADVANCE does from `step = t`.
-/
namespace Sys2Proof.Machine

/-- Tick step 0 (R151): all four generators step, the accumulator is cleared; the next tick state is 1 (R150). -/
def tickZero (s : State) : State :=
  { stepLfsr17 (stepLfsr9 (stepLfsr5 (stepLfsr4 s))) with acc := 0, step := 1 }

/-- Tick step `c + 1` (R152): `TimerStep(c)`; the next tick state is `c + 2` (R150). -/
def tickTimer (c : Chan) (s : State) : State := { timerStep c s with step := BitVec.ofNat 4 (c.val + 2) }

/-- Tick step `c + 5`, for `c` in 0..2 (R153): `MixStep(c)`; the next tick state is `c + 6` (R150). -/
def tickMix (c : Chan) (s : State) : State := { mixStep c s with step := BitVec.ofNat 4 (c.val + 6) }

/-- Tick step 8 (R155): `MixStep(3)`, then the sample is finalized; the next tick state is 0. -/
def tickFinal (s : State) : State := { finalize (mixStep 3 s) with step := 0 }

/-- `step > 8`: a tick state that no operation reaches (R30, R89). -/
def badTick (s : State) : Bool := decide (8 < s.step.toNat)

/-- `AdvanceOneStep()` (R150): the state after, and whether a sample became available. It is called only where `badTick` is
false: from a tick state above 8 its callers refuse. -/
def advanceOneStep (s : State) : State × Bool :=
  match s.step.toNat with
  | 0 => (tickZero s, false)
  | 1 => (tickTimer 0 s, false)
  | 2 => (tickTimer 1 s, false)
  | 3 => (tickTimer 2 s, false)
  | 4 => (tickTimer 3 s, false)
  | 5 => (tickMix 0 s, false)
  | 6 => (tickMix 1 s, false)
  | 7 => (tickMix 2 s, false)
  | 8 => (tickFinal s, true)
  | _ => (s, false)

/-- ADVANCE (R150). -/
def execAdvance (s : State) : Host.Outcome State Fault Refusal :=
  if badTick s then .refused .badTickState
  else .next ((advanceOneStep s).1.returning (.bool (advanceOneStep s).2))

/-- TICK_STEP0 (R151). -/
def execTickStep0 (s : State) : Host.Outcome State Fault Refusal := .next ((tickZero s).returning (.bool false))

/-- TICK_TIMER0 (R152). -/
def execTickTimer0 (s : State) : Host.Outcome State Fault Refusal := .next ((tickTimer 0 s).returning (.bool false))

/-- TICK_TIMER1 (R152). -/
def execTickTimer1 (s : State) : Host.Outcome State Fault Refusal := .next ((tickTimer 1 s).returning (.bool false))

/-- TICK_TIMER2 (R152). -/
def execTickTimer2 (s : State) : Host.Outcome State Fault Refusal := .next ((tickTimer 2 s).returning (.bool false))

/-- TICK_TIMER3 (R152). -/
def execTickTimer3 (s : State) : Host.Outcome State Fault Refusal := .next ((tickTimer 3 s).returning (.bool false))

/-- TICK_MIX0 (R153). -/
def execTickMix0 (s : State) : Host.Outcome State Fault Refusal := .next ((tickMix 0 s).returning (.bool false))

/-- TICK_MIX1 (R153). -/
def execTickMix1 (s : State) : Host.Outcome State Fault Refusal := .next ((tickMix 1 s).returning (.bool false))

/-- TICK_MIX2 (R153). -/
def execTickMix2 (s : State) : Host.Outcome State Fault Refusal := .next ((tickMix 2 s).returning (.bool false))

/-- TICK_MIX3_FINAL (R155): it returns true. -/
def execTickMix3Final (s : State) : Host.Outcome State Fault Refusal := .next ((tickFinal s).returning (.bool true))

/-- TICK_RESERVED (R89): a tick value 9..15 is refused. -/
def execTickReserved (_v : BitVec 4) (_s : State) : Host.Outcome State Fault Refusal := .refused .badTickState

end Sys2Proof.Machine
end

