-- ==== Sys2Proof/Machine/Arbiter.lean ====
section
/-!
DEFINITION. The bus arbiter (spec/44_bus_arbiter.md): BUS_ITERATE and its four classes BUS_ROM, BUS_REG_WRITE,
BUS_LOW_ACTIVE, BUS_LOW_DMA. A class's meaning is the path R211-R214 give its samples; which samples are in the class is
`classify`'s to say (spec/30_encoding.md R87).
-/
namespace Sys2Proof.Machine

/-- The iteration is discarded (R205). -/
def glitched (s : State) (b : BusSample) (a2 : Addr) : Bool := s.cfg.glitchFilter && a2 != b.addr

/-- Accounting, if the policy is one of `ps` (R216). -/
def account (ps : List AccountPolicy) (t : Nat) (s : State) : State :=
  if s.cfg.accountPolicy ∈ ps then noteElapsed t s else s

/-- A host write cycle in the ROM region is marked, and the iteration goes on (R210, R220, R232). -/
def markHostWrite (b : BusSample) (s : State) : State := if b.write then s.markFault .hostWriteInRomRegion else s

/-- The byte of the address is driven (R211). -/
def drive (a : Addr) (s : State) : State := (s.setDriving true).emit (.driveData (romByte s a))

/-- The ROM path (R211): the drive comes first, then accounting, which only EVERY_ITERATION does here (R216). -/
def romPath (b : BusSample) (t : Nat) (s : State) : State :=
  account [.everyIteration] t (drive b.addr (markHostWrite b s))

/-- The bus is released if it was driven (R212). -/
def release (s : State) : State := if s.driving then (s.emit .releaseBus).setDriving false else s

/-- What every LOW-region iteration begins with (R212, R216): the release, then accounting under LOW_ANY or
EVERY_ITERATION. -/
def enterLow (t : Nat) (s : State) : State := account [.everyIteration, .lowAny] t (release s)

/-- Sub-step (1) (R212): accounting under LOW_CPU_ACTIVE. -/
def lowAccount (t : Nat) (s : State) : State := account [.lowCpuActive] t (enterLow t s)

/-- The sample is emitted through OUTPUT_SCALE (R215). -/
def emitOutput (s : State) : State := s.emit (.emitSample (outputScale s.cfg s.sample))

/-- Sub-step (3) where the tick state is legal (R214): a unit of debt, if owed, pays for one tick step, and a completed
sample is emitted. -/
def paySynthesis (s : State) : State :=
  if debtOwed s then
    let r := advanceOneStep (consumeOne s)
    if r.2 then emitOutput r.1 else r.1
  else s

/-- Sub-step (3) (R214): a tick step that is owed from a tick state above 8 is refused (R150). -/
def synthesis (s : State) : Host.Outcome State Fault Refusal :=
  if badTick s && debtOwed s then .refused .badTickState
  else .next ((paySynthesis s).returning .unit)

/-- Sub-step (2) where it applies (R213): the byte on the data lines is written to the register the address selects. -/
def sniff (b : BusSample) (s : State) : State := writeRegister (regIndex b.addr) b.data s

/-- The LOW path with the host CPU on the bus (R212): accounting, then the sniff where `sniffed` says so, then synthesis. -/
def lowActivePath (sniffed : Bool) (b : BusSample) (t : Nat) (s : State) : Host.Outcome State Fault Refusal :=
  synthesis (if sniffed then sniff b (lowAccount t s) else lowAccount t s)

/-- BUS_ITERATE (R210), with its classes told apart by the tests of its pseudocode. -/
def execBusIterate (b : BusSample) (t : Nat) (a2 : Addr) (s : State) : Host.Outcome State Fault Refusal :=
  if glitched s b a2 then .next (s.returning .unit)
  else if inRom s.cfg b.addr then .next ((romPath b t s).returning .unit)
  else if !b.cpuActive then .next ((enterLow t s).returning .unit)
  else lowActivePath (b.write && inWindow s.cfg b.addr) b t s

/-- BUS_ROM (R211). -/
def execBusRom (b : BusSample) (t : Nat) (a2 : Addr) (s : State) : Host.Outcome State Fault Refusal :=
  .next ((if glitched s b a2 then s else romPath b t s).returning .unit)

/-- BUS_REG_WRITE (R212, R213). -/
def execBusRegWrite (b : BusSample) (t : Nat) (a2 : Addr) (s : State) : Host.Outcome State Fault Refusal :=
  if glitched s b a2 then .next (s.returning .unit) else lowActivePath true b t s

/-- BUS_LOW_ACTIVE (R212). -/
def execBusLowActive (b : BusSample) (t : Nat) (a2 : Addr) (s : State) : Host.Outcome State Fault Refusal :=
  if glitched s b a2 then .next (s.returning .unit) else lowActivePath false b t s

/-- BUS_LOW_DMA (R212). -/
def execBusLowDma (b : BusSample) (t : Nat) (a2 : Addr) (s : State) : Host.Outcome State Fault Refusal :=
  .next ((if glitched s b a2 then s else enterLow t s).returning .unit)

end Sys2Proof.Machine
end

