-- ==== Sys2Proof/Machine/Reserved.lean ====
section
/-!
DEFINITION. RESERVED_OP (spec/30_encoding.md R89; spec/60_exceptions.md R233): a CMD operation code of 8..15 has no meaning
and no step.
-/
namespace Sys2Proof.Machine

/-- RESERVED_OP (R89). -/
def execReservedOp (_low : BitVec 15) (_s : State) : Host.Outcome State Fault Refusal := .refused .reservedOp

end Sys2Proof.Machine
end

