-- ==== Sys2Proof/Machine/Dispatch.lean ====
section
/-! DEFINITION. One arm for each instruction, each a direct call of its meaning. -/
namespace Sys2Proof.Machine

def exec (i : Instr) (s : State) : Host.Outcome State Fault Refusal :=
  match i with
  | .reset => Sys2Proof.Machine.execReset s
  | .writeDiv c v => Sys2Proof.Machine.execWriteDiv c v s
  | .writeCtl c v => Sys2Proof.Machine.execWriteCtl c v s
  | .writeReg8 v => Sys2Proof.Machine.execWriteReg8 v s
  | .writeStimer v => Sys2Proof.Machine.execWriteStimer v s
  | .writePlain idx v => Sys2Proof.Machine.execWritePlain idx v s
  | .advance => Sys2Proof.Machine.execAdvance s
  | .currentOutput => Sys2Proof.Machine.execCurrentOutput s
  | .noteElapsed t => Sys2Proof.Machine.execNoteElapsed t s
  | .consume => Sys2Proof.Machine.execConsume s
  | .busIterate b t a2 => Sys2Proof.Machine.execBusIterate b t a2 s
  | .blockReset c0 => Sys2Proof.Machine.execBlockReset c0 s
  | .reservedOp low => Sys2Proof.Machine.execReservedOp low s
  | .busRom b t a2 => Sys2Proof.Machine.execBusRom b t a2 s
  | .busRegWrite b t a2 => Sys2Proof.Machine.execBusRegWrite b t a2 s
  | .busLowActive b t a2 => Sys2Proof.Machine.execBusLowActive b t a2 s
  | .busLowDma b t a2 => Sys2Proof.Machine.execBusLowDma b t a2 s
  | .tickStep0 => Sys2Proof.Machine.execTickStep0 s
  | .tickTimer0 => Sys2Proof.Machine.execTickTimer0 s
  | .tickTimer1 => Sys2Proof.Machine.execTickTimer1 s
  | .tickTimer2 => Sys2Proof.Machine.execTickTimer2 s
  | .tickTimer3 => Sys2Proof.Machine.execTickTimer3 s
  | .tickMix0 => Sys2Proof.Machine.execTickMix0 s
  | .tickMix1 => Sys2Proof.Machine.execTickMix1 s
  | .tickMix2 => Sys2Proof.Machine.execTickMix2 s
  | .tickMix3Final => Sys2Proof.Machine.execTickMix3Final s
  | .tickReserved v => Sys2Proof.Machine.execTickReserved v s
  | .lfsr4Step => Sys2Proof.Machine.execLfsr4Step s
  | .lfsr5Step => Sys2Proof.Machine.execLfsr5Step s
  | .lfsr9Step => Sys2Proof.Machine.execLfsr9Step s
  | .lfsr17Step => Sys2Proof.Machine.execLfsr17Step s
  | .timerStep c => Sys2Proof.Machine.execTimerStep c s
  | .mixStep c => Sys2Proof.Machine.execMixStep c s
  | .stimerReload v => Sys2Proof.Machine.execStimerReload v s

end Sys2Proof.Machine
end

