-- ==== Sys2Proof/WellFormed.lean ====
section
/-!
DEFINITION. Which instruction terms the encodings of spec/30_encoding.md can express: the operand ranges that the types of
Syntax.lean do not already say.
-/
namespace Sys2Proof

/-- A cycle count is a `CYCLE_BITS`-bit value (R81, R82). -/
def cycleFits (p : Params) (t : Nat) : Bool := decide (t < 2 ^ p.cycleBits)

/-- The instruction is one the encodings express under the parameters `p`: a WRITE_PLAIN index is 10..15 (R86), a reserved
tick value is 9..15 (R89), a bus sample is in the class its row names (R87), a cycle count fits `CYCLE_BITS` bits (R82). -/
def WellFormed (p : Params) : Instr → Bool
  | .writePlain idx _ => decide (10 ≤ idx.toNat)
  | .noteElapsed t => cycleFits p t
  | .busIterate _ t _ => cycleFits p t
  | .blockReset c0 => cycleFits p c0
  | .busRom b t _ => Machine.classify p b == .rom && cycleFits p t
  | .busRegWrite b t _ => Machine.classify p b == .regWrite && cycleFits p t
  | .busLowActive b t _ => Machine.classify p b == .lowActive && cycleFits p t
  | .busLowDma b t _ => Machine.classify p b == .lowDma && cycleFits p t
  | .tickReserved v => decide (9 ≤ v.toNat)
  | .reset | .writeDiv _ _ | .writeCtl _ _ | .writeReg8 _ | .writeStimer _ | .advance | .currentOutput | .consume
  | .reservedOp _ | .tickStep0 | .tickTimer0 | .tickTimer1 | .tickTimer2 | .tickTimer3 | .tickMix0 | .tickMix1 | .tickMix2
  | .tickMix3Final | .lfsr4Step | .lfsr5Step | .lfsr9Step | .lfsr17Step | .timerStep _ | .mixStep _ | .stimerReload _ => true

end Sys2Proof
end

