-- ==== Sys2Proof/Decode.lean ====
section
/-!
DEFINITION. The decoder, total on every input of every format and rejecting by name (spec/30_encoding.md R86-R90), and the
encoder, from the same tables.
-/
namespace Sys2Proof

/-- Why the decoder gives no instruction. -/
inductive Reject
  /-- A CMD word with a non-zero IDX or VAL and an OP in {0, 2..7} (R89). -/
  | reservedBits
deriving DecidableEq, Repr

/-- The fields of a BUS word (R81): D[25:18] C[17] W[16] A[15:0]. -/
def busOfWord (w : BitVec 26) : BusSample where
  data      := w.extractLsb' 18 8
  cpuActive := w.getLsbD 17
  write     := w.getLsbD 16
  addr      := w.extractLsb' 0 16

/-- The BUS word of a sample (R81). -/
def busWord (b : BusSample) : BitVec 26 :=
  b.data ++ BitVec.ofBool b.cpuActive ++ BitVec.ofBool b.write ++ b.addr

/-- The instruction of a bus sample: the constructor of its class (R87). -/
def decodeBus (p : Params) (b : BusSample) (t : Nat) (a2 : Addr) : Instr :=
  match Machine.classify p b with
  | .rom => .busRom b t a2
  | .regWrite => .busRegWrite b t a2
  | .lowActive => .busLowActive b t a2
  | .lowDma => .busLowDma b t a2

/-- WRITE_REG split by IDX into the register classes (R86): WRITE_DIV when IDX[3] = 0 and IDX[0] = 0, WRITE_CTL when
IDX[3] = 0 and IDX[0] = 1 (the channel is IDX[2:1] in both), then 8, 9 and 10..15. -/
def decodeWrite (idx : BitVec 4) (v : Byte) : Instr :=
  if idx.getLsbD 3 then
    if idx = 8 then .writeReg8 v
    else if idx = 9 then .writeStimer v
    else .writePlain idx v
  else if idx.getLsbD 0 then .writeCtl (idx.extractLsb' 1 2).toFin v
  else .writeDiv (idx.extractLsb' 1 2).toFin v

/-- A cycle count operand has `CYCLE_BITS` bits: a count handed over with more is read by its low `CYCLE_BITS` bits
(R82; log entry 10). -/
def cycleOperand (p : Params) (t : Nat) : Nat := t % 2 ^ p.cycleBits

/-- A CMD word with OP other than 1 must have IDX and VAL zero (R82, R89). -/
def decodeUnused (w : BitVec 16) (i : Instr) : Except Reject Instr :=
  if w.extractLsb' 0 12 = 0 then .ok i else .error .reservedBits

/-- A CMD word (R82, R86): OP 8..15 is the row RESERVED_OP whatever its other bits (log entry 11). -/
def decodeCmd (p : Params) (w : BitVec 16) (bus : BitVec 26) (t : Nat) (a2 : Addr) : Except Reject Instr :=
  match (w.extractLsb' 12 4).toNat with
  | 0 => decodeUnused w .reset
  | 1 => .ok (decodeWrite (w.extractLsb' 8 4) (w.extractLsb' 0 8))
  | 2 => decodeUnused w .advance
  | 3 => decodeUnused w .currentOutput
  | 4 => decodeUnused w (.noteElapsed (cycleOperand p t))
  | 5 => decodeUnused w .consume
  | 6 => decodeUnused w (.busIterate (busOfWord bus) (cycleOperand p t) a2)
  | 7 => decodeUnused w (.blockReset (cycleOperand p t))
  | _ => .ok (.reservedOp (w.extractLsb' 0 15))

/-- A TICK value (R88, R89). -/
def decodeTick (w : BitVec 4) : Instr :=
  match w.toNat with
  | 0 => .tickStep0
  | 1 => .tickTimer0
  | 2 => .tickTimer1
  | 3 => .tickTimer2
  | 4 => .tickTimer3
  | 5 => .tickMix0
  | 6 => .tickMix1
  | 7 => .tickMix2
  | 8 => .tickMix3Final
  | _ => .tickReserved w

/-- A NOISE value (R88). -/
def decodeNoise (w : BitVec 2) : Instr :=
  match w.toNat with
  | 0 => .lfsr4Step
  | 1 => .lfsr5Step
  | 2 => .lfsr9Step
  | _ => .lfsr17Step

/-- The decoder (R90). -/
def decode (p : Params) : Input → Except Reject Instr
  | .cmd w bus t a2 => decodeCmd p w bus t a2
  | .bus w t a2 => .ok (decodeBus p (busOfWord w) (cycleOperand p t) a2)
  | .tick w => .ok (decodeTick w)
  | .noise w => .ok (decodeNoise w)
  | .timer w => .ok (.timerStep w.toFin)
  | .mix w => .ok (.mixStep w.toFin)
  | .reload v => .ok (.stimerReload v)

/-- A CMD word from its fields OP, IDX, VAL (R82). -/
def cmdWord (op idx : BitVec 4) (v : Byte) : BitVec 16 := op ++ idx ++ v

/-- A CMD word with no operand beside it. -/
def plainCmd (op idx : BitVec 4) (v : Byte) : Input := .cmd (cmdWord op idx v) 0 0 0

/-- The index of DIVc is `2c` and of CTLc `2c + 1` (R21): the channel number in bits 2..1, `odd` in bit 0. -/
def chanIndex (c : Chan) (odd : Bool) : BitVec 4 :=
  (0 : BitVec 1) ++ BitVec.ofFin (w := 2) c ++ BitVec.ofBool odd

/-- The encoder: the words of an instruction (R81, R82, R86, R88). -/
def encode : Instr → Input
  | .reset => plainCmd 0 0 0
  | .writeDiv c v => plainCmd 1 (chanIndex c false) v
  | .writeCtl c v => plainCmd 1 (chanIndex c true) v
  | .writeReg8 v => plainCmd 1 8 v
  | .writeStimer v => plainCmd 1 9 v
  | .writePlain idx v => plainCmd 1 idx v
  | .advance => plainCmd 2 0 0
  | .currentOutput => plainCmd 3 0 0
  | .noteElapsed t => .cmd (cmdWord 4 0 0) 0 t 0
  | .consume => plainCmd 5 0 0
  | .busIterate b t a2 => .cmd (cmdWord 6 0 0) (busWord b) t a2
  | .blockReset c0 => .cmd (cmdWord 7 0 0) 0 c0 0
  | .reservedOp low => .cmd ((1 : BitVec 1) ++ low) 0 0 0
  | .busRom b t a2 => .bus (busWord b) t a2
  | .busRegWrite b t a2 => .bus (busWord b) t a2
  | .busLowActive b t a2 => .bus (busWord b) t a2
  | .busLowDma b t a2 => .bus (busWord b) t a2
  | .tickStep0 => .tick 0
  | .tickTimer0 => .tick 1
  | .tickTimer1 => .tick 2
  | .tickTimer2 => .tick 3
  | .tickTimer3 => .tick 4
  | .tickMix0 => .tick 5
  | .tickMix1 => .tick 6
  | .tickMix2 => .tick 7
  | .tickMix3Final => .tick 8
  | .tickReserved v => .tick v
  | .lfsr4Step => .noise 0
  | .lfsr5Step => .noise 1
  | .lfsr9Step => .noise 2
  | .lfsr17Step => .noise 3
  | .timerStep c => .timer (BitVec.ofFin (w := 2) c)
  | .mixStep c => .mix (BitVec.ofFin (w := 2) c)
  | .stimerReload v => .reload v

/-- The input whose word is `w`, in the format whose width `nbits` bits hold (log entry 12): up to 2 bits NOISE, up to 8
TICK, up to 16 CMD, more BUS. The formats are instruction spaces of their own whose words overlap, so the width decides.
Every operand beside the word is 0. -/
def tableInput (nbits w : Nat) : Input :=
  if nbits ≤ 2 then .noise (BitVec.ofNat 2 w)
  else if nbits ≤ 8 then .tick (BitVec.ofNat 4 w)
  else if nbits ≤ 16 then .cmd (BitVec.ofNat 16 w) 0 0 0
  else .bus (BitVec.ofNat 26 w) 0 0

/-- What the decoder reads from a table word at the parameters of reset. -/
def decodeTableWord (nbits w : Nat) : Option Instr :=
  match decode Params.atReset (tableInput nbits w) with
  | .ok i => some i
  | .error _ => none

end Sys2Proof
end

