-- ==== Sys2Proof/Machine/Fetch.lean ====
section
/-!
DEFINITION. What the block runs next. The block fetches no program (spec/20_memory.md R60, R75): its operations and bus
samples come from the environment (spec/00_scope.md R10), and with nothing placed it runs its loop on whatever the bus shows
(spec/70_reset_and_hazards.md R262). Which states have no step (spec/60_exceptions.md R233), and the sticky marks.
-/
namespace Sys2Proof.Machine

/-- Why a state has no step (R233): it is marked refused, or its parameters break R8, or its tick state is above 8 (R89). -/
def stateRefusal (s : State) : Option Refusal :=
  match s.refused with
  | some r => some r
  | none =>
    if !paramsValid s.cfg then some .badConfig
    else if badTick s then some .badTickState
    else none

/-- The environment's draw for one iteration (R200, R180): nothing constrains it (log entry 2). -/
def drawInput (n : Nat) : Input := .bus (Config.drawBus n) (Config.drawCycle n) (Config.drawSecond n)

/-- What the block is handed next, and the state without it: the oldest placed input, or a draw of the environment. -/
def fetch (s : State) : Input × State :=
  match s.inputs with
  | x :: rest => (x, { s with inputs := rest })
  | [] => (drawInput s.fresh, { s with fresh := s.fresh + 1 })

/-- The refusal that a rejected input ends in (R89). -/
def rejectRefusal : Reject → Refusal
  | .reservedBits => .reservedBits

/-- The state the model keeps after a step with outcome `o`: after a refusal, the same state with the sticky mark (R233). -/
def settle (s : State) (o : Host.Outcome State Fault Refusal) : State :=
  match o with
  | .next t => t
  | .fault f => s.markFault f
  | .refused r => { s with refused := some (s.refused.getD r) }

end Sys2Proof.Machine
end

