-- ==== Sys2Proof/Machine/Step.lean ====
section
/-!
DEFINITION. One step of the machine: the next input, decoded and run (spec/00_scope.md R10: one operation, or one bus-arbiter
iteration, is one atomic step).
-/
namespace Sys2Proof.Machine

/-- One step. A state that R233 refuses has none; an input the decoder rejects is refused by name. -/
def step (s : State) : Host.Outcome State Fault Refusal :=
  match stateRefusal s with
  | some r => .refused r
  | none =>
    match decode (fetch s).2.cfg (fetch s).1 with
    | .ok i => exec i (fetch s).2
    | .error e => .refused (rejectRefusal e)

/-- `s` with the instruction of a table word placed so that the very next step runs it (log entry 1). -/
def State.withFetchWord (s : State) (nbits w : Nat) : State := { s with inputs := tableInput nbits w :: s.inputs }

end Sys2Proof.Machine
end

