-- ==== Sys2Proof/Machine/Assembler.lean ====
section
/-!
DEFINITION. The assembler lines and pseudo-operations of spec/30_encoding.md R91 and R92, with the words they encode, and the
register names of spec/00_scope.md R17.
-/
namespace Sys2Proof.Machine

/-- A register name (R17). -/
inductive RegName
  | div (c : Chan)
  | ctl (c : Chan)
  | reg8
  | stimer
  /-- REG10..REG15, by their number less 10. -/
  | plain (n : Fin 6)
deriving DecidableEq, Repr

/-- The index of a named register (R17, R21). -/
def regNumber : RegName → BitVec 4
  | .div c => divIndex c
  | .ctl c => ctlIndex c
  | .reg8 => 8
  | .stimer => 9
  | .plain n => BitVec.ofNat 4 (10 + n.val)

/-- A line of assembler text (R91). `bus` carries the fields A, D, C, W, T, A2. -/
inductive AsmLine
  | reset
  | wr (idx : BitVec 4) (val : Byte)
  | adv
  | out
  | note (t : Nat)
  | consume
  | bus (a : Addr) (d : Byte) (c w : Bool) (t : Nat) (a2 : Addr)
  | breset (c0 : Nat)
deriving DecidableEq, Repr

/-- What a line encodes (R91): its CMD word, with the operands beside it. -/
def asmInput : AsmLine → Input
  | .reset => .cmd 0x0000 0 0 0
  | .wr idx val => .cmd (BitVec.ofNat 16 (0x1000 ||| idx.toNat <<< 8 ||| val.toNat)) 0 0 0
  | .adv => .cmd 0x2000 0 0 0
  | .out => .cmd 0x3000 0 0 0
  | .note t => .cmd 0x4000 0 t 0
  | .consume => .cmd 0x5000 0 0 0
  | .bus a d c w t a2 =>
    .cmd 0x6000 (BitVec.ofNat 26 (d.toNat <<< 18 ||| c.toNat <<< 17 ||| w.toNat <<< 16 ||| a.toNat)) t a2
  | .breset c0 => .cmd 0x7000 0 c0 0

/-- `ADV9` (R92): one full synthesis cycle. -/
def asmAdv9 : List AsmLine := List.replicate 9 .adv

/-- `STIMER` (R92). -/
def asmStimer : List AsmLine := [.wr 9 0]

/-- `TONE c, div, ctl` (R92). -/
def asmTone (c : Chan) (div ctl : Byte) : List AsmLine := [.wr (divIndex c) div, .wr (ctlIndex c) ctl]

/-- `MUTE c` (R92): DC mode, volume 0. -/
def asmMute (c : Chan) : List AsmLine := [.wr (ctlIndex c) 0x10]

/-- `READ a, t` (R92). With the glitch filter on, both samples are `a` (log entry 13). -/
def asmRead (a : Addr) (t : Nat) : List AsmLine := [.bus a 0 true false t a]

/-- `POKE a, d, t` (R92). With the glitch filter on, both samples are `a` (log entry 13). -/
def asmPoke (a : Addr) (d : Byte) (t : Nat) : List AsmLine := [.bus a d true true t a]

end Sys2Proof.Machine
end

