-- ==== Sys2Proof/Safety.lean ====
section
/-!
DEFINITION. The terms claims are made in: the invariants of the machine (spec/10_state.md R26, R29, R30, R31, R34, R35), the
words "only these fields changed", and rules of the spec written a second time, in another form, for statements to compare
the model with.
-/
namespace Sys2Proof.Machine

/-- The invariant that every step keeps, whatever is placed in the input queue. -/
structure BlockInv (s : State) : Prop where
  /-- `ch[c].divisor = reg[2c]` (R26). -/
  divisors : ∀ c : Chan, s.ch[c].divisor = s.regs[2 * c.val]
  /-- No generator is in the all-zero lock-up state (R29). -/
  lfsr4 : s.lfsr4 ≠ 0
  lfsr5 : s.lfsr5 ≠ 0
  lfsr9 : s.lfsr9 ≠ 0
  lfsr17 : s.lfsr17 ≠ 0
  /-- The tick state is legal (R30). -/
  tick : s.step.toNat ≤ 8
  /-- The debt never exceeds its ceiling (R34). -/
  debtBound : s.debt ≤ s.cfg.debtMax
  /-- The phase is a `CYCLE_BITS`-bit value (R35). -/
  phase : s.lastSampled < 2 ^ s.cfg.cycleBits
  /-- The ROM image is in canonical form. -/
  rom : s.rom.wf s.cfg.romSize = true
  /-- The fault marks are a set (R232). -/
  faultsOnce : s.faulted.Nodup

/-- The largest accumulator a tick state can be reached with (R31, R164): each mix step adds at most 15, from step 5 on. -/
def accBound (tick : Nat) : Nat := if tick = 0 then 60 else 15 * (tick - 5)

/-- The invariant of machines that are only handed interface operations and bus samples: no micro-operation is issued but
by the sequencer and by WRITE_STIMER (R3). -/
structure Tidy (s : State) : Prop where
  /-- Only interface operations and bus samples wait. -/
  interface : ∀ x ∈ s.inputs, x.isInterface = true
  /-- The accumulator is within its range (R31, R164). -/
  acc : s.acc.toNat ≤ accBound s.step.toNat
  /-- The sample is the scale of a sum in 0..60 (R164). -/
  sample : ∃ n, n ≤ 60 ∧ s.sample.toNat = scaleNat n

/-- No byte the block can drive differs (R62, R64). -/
def SameRom (s t : State) : Prop := ∀ a : Addr, romByte t a = romByte s a

/-- The engine's registers and generators, its timers, sequencer and sample are unchanged (R142, R218). -/
def SameEngine (s t : State) : Prop :=
  t.regs = s.regs ∧ t.ch = s.ch ∧ t.lfsr4 = s.lfsr4 ∧ t.lfsr5 = s.lfsr5 ∧ t.lfsr9 = s.lfsr9 ∧ t.lfsr17 = s.lfsr17 ∧
    t.step = s.step ∧ t.acc = s.acc ∧ t.sample = s.sample

/-- R100 on naturals: `((s << 1) | fb) & (2^w - 1)` with `fb = s[a] ^ s[b]`. -/
def lfsrFormula (w a b v : Nat) : Nat := ((v <<< 1) ||| ((v >>> a) ^^^ (v >>> b)) % 2) &&& (2 ^ w - 1)

/-- `(T - last) mod 2^n` of R181, for counts below `2^n`, by cases on whether the counter has wrapped. -/
def elapsedCount (n last t : Nat) : Nat := if last ≤ t then t - last else t + 2 ^ n - last

/-- The source's loop (R187), `fuel` rounds of it: while the difference meets or exceeds the period, a unit of debt, clamped
each time, and the phase moved by one period. -/
def noteLoop (t : Nat) : Nat → State → State
  | 0, s => s
  | fuel + 1, s =>
    if s.cfg.schedPeriod ≤ elapsed s t then
      noteLoop t fuel
        { s with debt := min s.cfg.debtMax (s.debt + s.cfg.schedUnit)
                 lastSampled := (s.lastSampled + s.cfg.schedPeriod) % 2 ^ s.cfg.cycleBits }
    else s

/-- One instruction executed `n` times in a row, where every time answers a next state. -/
def execTimes (i : Instr) : Nat → State → Option State
  | 0, s => some s
  | n + 1, s =>
    match exec i s with
    | .next t => execTimes i n t
    | .fault _ => none
    | .refused _ => none

/-- How many events of a list satisfy `p`. -/
def countEvents (p : Event → Bool) (es : List Event) : Nat := es.countP p

/-- The event is a drive of the data lines. -/
def Event.isDrive : Event → Bool
  | .driveData _ => true
  | .releaseBus => false
  | .emitSample _ => false

/-- The event is a release of the bus. -/
def Event.isRelease : Event → Bool
  | .driveData _ => false
  | .releaseBus => true
  | .emitSample _ => false

/-- The event is the emission of a sample. -/
def Event.isEmit : Event → Bool
  | .driveData _ => false
  | .releaseBus => false
  | .emitSample _ => true

end Sys2Proof.Machine
end

