-- ==== Sys2Proof/Certificates/Slice0/Obligations.lean ====
section
/-!
DEFINITION. The statements for the provers. Where a statement speaks of an instruction, its conclusion is that `exec` answers
a next state, and an equation `t = { s with … }` says that no other field of the state changes: neither a register, a mark,
the memory nor a parameter.
-/
open Sys2Proof Sys2Proof.Machine

/-! ### The engine: RESET, the register writes, CURRENT_OUTPUT -/

/-- R140, R141: RESET zeroes the registers, channels, tick state, accumulator and sample, seeds the generators, leaves the
scheduler and the arbiter alone, and does not depend on the state before. -/
def Obligations.ResetClearsEngine : Prop :=
  (∀ p bus t a2, decode p (.cmd 0x0000 bus t a2) = .ok .reset) ∧
  (∀ s : State, ∃ t, exec .reset s = .next t ∧
    t = { s with regs := t.regs, ch := t.ch, lfsr4 := 0xF, lfsr5 := 0x1F, lfsr9 := 0x1FF, lfsr17 := 0x1FFFF,
                 step := 0, acc := 0, sample := 0, result := .unit } ∧
    (∀ i : Fin 16, t.regs[i] = 0) ∧ (∀ c : Chan, t.ch[c] = { divisor := 0, counter := 0, out := false }) ∧
    SameRom s t ∧ ∃ u, exec .currentOutput t = .next u ∧ u.result = .byte 0) ∧
  ∀ s s' t t' : State, exec .reset s = .next t → exec .reset s' = .next t' → SameEngine t t'

/-- R143: WRITE_DIV stores the byte and sets the channel's divisor; its counter is not reloaded. -/
def Obligations.WriteDivSetsRegisterAndDivisor : Prop :=
  (∀ p bus t a2 (c : Chan) (v : Byte),
    decode p (.cmd (BitVec.ofNat 16 (0x1000 + 0x200 * c.val + v.toNat)) bus t a2) = .ok (.writeDiv c v)) ∧
  ∀ (s : State) (c : Chan) (v : Byte), ∃ t, exec (.writeDiv c v) s = .next t ∧
    t = { s with regs := t.regs, ch := t.ch, result := .unit } ∧
    (∀ i : Fin 16, t.regs[i] = if i.val = 2 * c.val then v else s.regs[i]) ∧
    (∀ d : Chan, t.ch[d] = if d = c then { s.ch[d] with divisor := v } else s.ch[d]) ∧ SameRom s t

/-- R144, R83: WRITE_CTL stores the byte and does nothing else; the fields of the stored byte are its bits 7..5, 4 and 3..0. -/
def Obligations.WriteCtlStoresControlByte : Prop :=
  (∀ p bus t a2 (c : Chan) (v : Byte),
    decode p (.cmd (BitVec.ofNat 16 (0x1100 + 0x200 * c.val + v.toNat)) bus t a2) = .ok (.writeCtl c v)) ∧
  ∀ (s : State) (c : Chan) (v : Byte), ∃ t, exec (.writeCtl c v) s = .next t ∧
    t = { s with regs := t.regs, result := .unit } ∧
    (∀ i : Fin 16, t.regs[i] = if i.val = 2 * c.val + 1 then v else s.regs[i]) ∧ SameRom s t ∧
    (ctlDist (t.ctl c)).toNat = v.toNat / 32 ∧ ctlMute (t.ctl c) = (v.toNat / 16 % 2 == 1) ∧
    (ctlVol (t.ctl c)).toNat = v.toNat % 16

/-- R145, R147: WRITE_REG8 and WRITE_PLAIN store the byte and do nothing else. -/
def Obligations.StorageWritesOnlyStore : Prop :=
  (∀ p bus t a2 (v : Byte), decode p (.cmd (BitVec.ofNat 16 (0x1800 + v.toNat)) bus t a2) = .ok (.writeReg8 v)) ∧
  (∀ p bus t a2 (idx : BitVec 4) (v : Byte), 10 ≤ idx.toNat →
    decode p (.cmd (BitVec.ofNat 16 (0x1000 + 0x100 * idx.toNat + v.toNat)) bus t a2) = .ok (.writePlain idx v)) ∧
  (∀ (s : State) (v : Byte), ∃ t, exec (.writeReg8 v) s = .next t ∧ t = { s with regs := t.regs, result := .unit } ∧
    (∀ i : Fin 16, t.regs[i] = if i.val = 8 then v else s.regs[i]) ∧ SameRom s t) ∧
  ∀ (s : State) (idx : BitVec 4) (v : Byte), 10 ≤ idx.toNat → ∃ t, exec (.writePlain idx v) s = .next t ∧
    t = { s with regs := t.regs, result := .unit } ∧
    (∀ i : Fin 16, t.regs[i] = if i.val = idx.toNat then v else s.regs[i]) ∧ SameRom s t

/-- R146, R125: WRITE_STIMER stores the byte and reloads all four counters, whatever the byte; STIMER_RELOAD reloads them
and stores nothing. No output bit changes. -/
def Obligations.StimerReloadsAllCounters : Prop :=
  (∀ p bus t a2 (v : Byte), decode p (.cmd (BitVec.ofNat 16 (0x1900 + v.toNat)) bus t a2) = .ok (.writeStimer v)) ∧
  (∀ (s : State) (v : Byte), ∃ t, exec (.writeStimer v) s = .next t ∧
    t = { s with regs := t.regs, ch := t.ch, result := .unit } ∧
    (∀ i : Fin 16, t.regs[i] = if i.val = 9 then v else s.regs[i]) ∧
    (∀ c : Chan, t.ch[c] = { s.ch[c] with counter := s.ch[c].divisor }) ∧ SameRom s t) ∧
  ∀ (s : State) (v : Byte), ∃ t, exec (.stimerReload v) s = .next t ∧ t = { s with ch := t.ch, result := .unit } ∧
    (∀ c : Chan, t.ch[c] = { s.ch[c] with counter := s.ch[c].divisor }) ∧ SameRom s t

/-- R142, R86: the class instruction an index decodes to does what `writeRegister` does with that index, the operation the
bus sniff calls. -/
def Obligations.ClassWritesAreWriteRegister : Prop :=
  ∀ (s : State) (idx : BitVec 4) (v : Byte),
    exec (decodeWrite idx v) s = .next { writeRegister idx v s with result := .unit }

/-- R149: a register write done twice in a row leaves the state of doing it once, for every index. -/
def Obligations.RepeatedWriteIsOneWrite : Prop :=
  ∀ (s : State) (idx : BitVec 4) (v : Byte),
    ∃ t, exec (decodeWrite idx v) s = .next t ∧ exec (decodeWrite idx v) t = .next t

/-- R157: CURRENT_OUTPUT returns the sample and changes nothing else. -/
def Obligations.CurrentOutputReturnsSample : Prop :=
  (∀ p bus t a2, decode p (.cmd 0x3000 bus t a2) = .ok .currentOutput) ∧
  ∀ s : State, ∃ t, exec .currentOutput s = .next t ∧ t = { s with result := .byte s.sample } ∧ SameRom s t ∧
    exec .currentOutput t = .next t

/-! ### The noise generators -/

/-- R100 to R104: each LFSR step moves its own generator by the formula of R100 with its taps, and nothing else. -/
def Obligations.LfsrStepsFollowFormula : Prop :=
  (∀ p, decode p (.noise 0) = .ok .lfsr4Step ∧ decode p (.noise 1) = .ok .lfsr5Step ∧
    decode p (.noise 2) = .ok .lfsr9Step ∧ decode p (.noise 3) = .ok .lfsr17Step) ∧
  ∀ s : State,
    (∃ t, exec .lfsr4Step s = .next t ∧ t = { s with lfsr4 := t.lfsr4, result := .unit } ∧
      t.lfsr4.toNat = lfsrFormula 4 3 2 s.lfsr4.toNat ∧ SameRom s t) ∧
    (∃ t, exec .lfsr5Step s = .next t ∧ t = { s with lfsr5 := t.lfsr5, result := .unit } ∧
      t.lfsr5.toNat = lfsrFormula 5 4 2 s.lfsr5.toNat ∧ SameRom s t) ∧
    (∃ t, exec .lfsr9Step s = .next t ∧ t = { s with lfsr9 := t.lfsr9, result := .unit } ∧
      t.lfsr9.toNat = lfsrFormula 9 8 4 s.lfsr9.toNat ∧ SameRom s t) ∧
    (∃ t, exec .lfsr17Step s = .next t ∧ t = { s with lfsr17 := t.lfsr17, result := .unit } ∧
      t.lfsr17.toNat = lfsrFormula 17 16 13 s.lfsr17.toNat ∧ SameRom s t)

/-- R105: every LFSR step is injective (so a bijection), and reaches 0 from 0 only. -/
def Obligations.LfsrStepsAreBijections : Prop :=
  ∀ s s' t t' : State,
    (exec .lfsr4Step s = .next t → exec .lfsr4Step s' = .next t' →
      (t.lfsr4 = t'.lfsr4 ↔ s.lfsr4 = s'.lfsr4) ∧ (t.lfsr4 = 0 ↔ s.lfsr4 = 0)) ∧
    (exec .lfsr5Step s = .next t → exec .lfsr5Step s' = .next t' →
      (t.lfsr5 = t'.lfsr5 ↔ s.lfsr5 = s'.lfsr5) ∧ (t.lfsr5 = 0 ↔ s.lfsr5 = 0)) ∧
    (exec .lfsr9Step s = .next t → exec .lfsr9Step s' = .next t' →
      (t.lfsr9 = t'.lfsr9 ↔ s.lfsr9 = s'.lfsr9) ∧ (t.lfsr9 = 0 ↔ s.lfsr9 = 0)) ∧
    (exec .lfsr17Step s = .next t → exec .lfsr17Step s' = .next t' →
      (t.lfsr17 = t'.lfsr17 ↔ s.lfsr17 = s'.lfsr17) ∧ (t.lfsr17 = 0 ↔ s.lfsr17 = 0))

/-- R107, for the 4-, 5- and 9-bit generators: from the all-ones seed the state first returns after 15, 31 and 511 steps. -/
def Obligations.ShortGeneratorsHaveFullPeriod : Prop :=
  ∀ s : State,
    (s.lfsr4 = 0xF → (execTimes .lfsr4Step 15 s).map State.lfsr4 = some 0xF ∧
      ∀ k, 0 < k → k < 15 → ∃ t, execTimes .lfsr4Step k s = some t ∧ t.lfsr4 ≠ 0xF) ∧
    (s.lfsr5 = 0x1F → (execTimes .lfsr5Step 31 s).map State.lfsr5 = some 0x1F ∧
      ∀ k, 0 < k → k < 31 → ∃ t, execTimes .lfsr5Step k s = some t ∧ t.lfsr5 ≠ 0x1F) ∧
    (s.lfsr9 = 0x1FF → (execTimes .lfsr9Step 511 s).map State.lfsr9 = some 0x1FF ∧
      ∀ k, 0 < k → k < 511 → ∃ t, execTimes .lfsr9Step k s = some t ∧ t.lfsr9 ≠ 0x1FF)

/-- R107, for the 17-bit generator: from the all-ones seed the state returns after 131071 steps, and not after one. (131071 is
prime, so with R105 this makes it the period.) -/
def Obligations.LongGeneratorReturnsToSeed : Prop :=
  ∀ s : State, s.lfsr17 = 0x1FFFF →
    (∃ t, execTimes .lfsr17Step 131071 s = some t ∧ t.lfsr17 = 0x1FFFF) ∧
    ∃ u, exec .lfsr17Step s = .next u ∧ u.lfsr17 ≠ 0x1FFFF

/-- R106: the noise index packs the generators' low bits, the 4-bit one's as bit 0, and an ADVANCE from any tick state but 0
leaves it, so that all four mix steps of a cycle see one index. -/
def Obligations.NoiseIndexPacksLowBits : Prop :=
  (∀ s : State, (noiseIndex s).toNat =
    s.lfsr4.toNat % 2 + 2 * (s.lfsr5.toNat % 2) + 4 * (s.lfsr9.toNat % 2) + 8 * (s.lfsr17.toNat % 2)) ∧
  ∀ s : State, 0 < s.step.toNat → s.step.toNat ≤ 8 →
    ∃ t, exec .advance s = .next t ∧ noiseIndex t = noiseIndex s

/-- R108: a step of the generators happens only where tick step 0 or a noise micro-operation runs, or a reset seeds them: an
instruction that is none of these, and an ADVANCE or an iteration from a tick state other than 0, leaves all four. -/
def Obligations.NoiseMovesOnlyAtTickZero : Prop :=
  ∀ (i : Instr) (s t : State), exec i s = .next t →
    (t.lfsr4 ≠ s.lfsr4 ∨ t.lfsr5 ≠ s.lfsr5 ∨ t.lfsr9 ≠ s.lfsr9 ∨ t.lfsr17 ≠ s.lfsr17) →
    i = .reset ∨ (∃ c0, i = .blockReset c0) ∨ i = .tickStep0 ∨
    i = .lfsr4Step ∨ i = .lfsr5Step ∨ i = .lfsr9Step ∨ i = .lfsr17Step ∨
    (s.step.toNat = 0 ∧ (i = .advance ∨ ∃ b T a2, i = .busIterate b T a2 ∨ i = .busRegWrite b T a2 ∨ i = .busLowActive b T a2))

/-! ### The timers -/

/-- R121: the timer step, muted, under WRAP and under SATURATE; the other channels, and the channel's divisor, are left. -/
def Obligations.TimerStepCountsAndToggles : Prop :=
  (∀ p (c : Chan), decode p (.timer (BitVec.ofNat 2 c.val)) = .ok (.timerStep c)) ∧
  ∀ (s : State) (c : Chan), ∃ t, exec (.timerStep c) s = .next t ∧ t = { s with ch := t.ch, result := .unit } ∧
    SameRom s t ∧ (∀ d : Chan, d ≠ c → t.ch[d] = s.ch[d]) ∧ t.ch[c].divisor = s.ch[c].divisor ∧
    if (s.regs[2 * c.val + 1]).getLsbD 4 then t.ch[c].out = true ∧ t.ch[c].counter = s.ch[c].counter
    else
      let n := match s.cfg.timerUnderflow with
        | .wrap => (s.ch[c].counter.toNat + 255) % 256
        | .saturate => s.ch[c].counter.toNat - 1
      if n = 0 then t.ch[c].counter = s.ch[c].divisor ∧ t.ch[c].out = !s.ch[c].out
      else t.ch[c].counter.toNat = n ∧ t.ch[c].out = s.ch[c].out

/-- R123: an unmuted channel that has just reloaded inverts after `h(d)` timer steps and not before, and has then just
reloaded again; `h(d) = d`, but `h(0)` is 256 under WRAP and 1 under SATURATE. -/
def Obligations.ChannelInvertsEveryHalfPeriod : Prop :=
  ∀ (s : State) (c : Chan), (s.regs[2 * c.val + 1]).getLsbD 4 = false → s.ch[c].counter = s.ch[c].divisor →
    let h := if s.ch[c].divisor = 0 then (match s.cfg.timerUnderflow with | .wrap => 256 | .saturate => 1)
      else s.ch[c].divisor.toNat
    (∃ t, execTimes (.timerStep c) h s = some t ∧ t.ch[c] = { s.ch[c] with out := !s.ch[c].out }) ∧
    ∀ k, k < h → ∃ t, execTimes (.timerStep c) k s = some t ∧ t.ch[c].out = s.ch[c].out

/-! ### The tick sequencer and the mix -/

/-- R150: ADVANCE runs exactly the micro-step its tick state names, moves to the next tick state, and returns true on step 8
alone; from a tick state above 8 it is refused. -/
def Obligations.AdvanceRunsItsTickStep : Prop :=
  (∀ p bus t a2, decode p (.cmd 0x2000 bus t a2) = .ok .advance) ∧
  (∀ s : State, 8 < s.step.toNat → exec .advance s = .refused .badTickState) ∧
  ∀ s : State, s.step.toNat ≤ 8 → ∃ t, exec .advance s = .next t ∧ exec (decodeTick s.step) s = .next t ∧
    t.step.toNat = (s.step.toNat + 1) % 9 ∧ t.result = .bool (s.step.toNat == 8)

/-- R151: tick step 0 steps all four generators by R100 and clears the accumulator; the next tick state is 1 and false is returned
(R150). That a TICK word issued from a tick state other than 0 does the same is the model's choice (log entry 15). -/
def Obligations.TickZeroStepsGenerators : Prop :=
  (∀ p, decode p (.tick 0) = .ok .tickStep0) ∧
  ∀ s : State, ∃ t, exec .tickStep0 s = .next t ∧
    t = { s with lfsr4 := t.lfsr4, lfsr5 := t.lfsr5, lfsr9 := t.lfsr9, lfsr17 := t.lfsr17, acc := 0, step := 1,
                 result := .bool false } ∧
    t.lfsr4.toNat = lfsrFormula 4 3 2 s.lfsr4.toNat ∧ t.lfsr5.toNat = lfsrFormula 5 4 2 s.lfsr5.toNat ∧
    t.lfsr9.toNat = lfsrFormula 9 8 4 s.lfsr9.toNat ∧ t.lfsr17.toNat = lfsrFormula 17 16 13 s.lfsr17.toNat ∧ SameRom s t

/-- R152: tick step `c + 1` is `TIMER_STEP c`, in ascending order of channels; the next tick state is `c + 2` and false is returned
(R150). That a TICK word issued from a tick state other than its own does the same is the model's choice (log entry 15). -/
def Obligations.TimerTicksStepTheirChannel : Prop :=
  (∀ p, decode p (.tick 1) = .ok .tickTimer0 ∧ decode p (.tick 2) = .ok .tickTimer1 ∧
    decode p (.tick 3) = .ok .tickTimer2 ∧ decode p (.tick 4) = .ok .tickTimer3) ∧
  ∀ s : State,
    (∃ u, exec (.timerStep 0) s = .next u ∧ exec .tickTimer0 s = .next { u with step := 2, result := .bool false }) ∧
    (∃ u, exec (.timerStep 1) s = .next u ∧ exec .tickTimer1 s = .next { u with step := 3, result := .bool false }) ∧
    (∃ u, exec (.timerStep 2) s = .next u ∧ exec .tickTimer2 s = .next { u with step := 4, result := .bool false }) ∧
    (∃ u, exec (.timerStep 3) s = .next u ∧ exec .tickTimer3 s = .next { u with step := 5, result := .bool false })

/-- R153: tick step `c + 5`, for `c` in 0..2, is `MIX_STEP c`; the next tick state is `c + 6` and false is returned (R150). That a
TICK word issued from a tick state other than its own does the same is the model's choice (log entry 15). -/
def Obligations.MixTicksMixTheirChannel : Prop :=
  (∀ p, decode p (.tick 5) = .ok .tickMix0 ∧ decode p (.tick 6) = .ok .tickMix1 ∧ decode p (.tick 7) = .ok .tickMix2) ∧
  ∀ s : State,
    (∃ u, exec (.mixStep 0) s = .next u ∧ exec .tickMix0 s = .next { u with step := 6, result := .bool false }) ∧
    (∃ u, exec (.mixStep 1) s = .next u ∧ exec .tickMix1 s = .next { u with step := 7, result := .bool false }) ∧
    (∃ u, exec (.mixStep 2) s = .next u ∧ exec .tickMix2 s = .next { u with step := 8, result := .bool false })

/-- R155, R156: tick step 8 mixes channel 3, then finalizes the scaled sum (4.25 times it, truncated) where it is in 0..60,
wraps to tick state 0 and returns true. Above 60 the sample is a free value and the rest is the same (log entry 8, the
model's choice). That TICK 8 issued from a tick state other than 8 does the same is the model's choice (log entry 15). -/
def Obligations.FinalTickFinalizesSample : Prop :=
  (∀ p, decode p (.tick 8) = .ok .tickMix3Final) ∧
  ∀ s : State, ∃ u t, exec (.mixStep 3) s = .next u ∧ exec .tickMix3Final s = .next t ∧
    t = { u with sample := t.sample, fresh := t.fresh, step := 0, result := .bool true } ∧ SameRom s t ∧
    (u.acc.toNat ≤ 60 → t.sample.toNat = 17 * u.acc.toNat / 4 ∧ t.sample.toNat ≤ 255 ∧ t.fresh = u.fresh)

/-- R162, R163: the mix step adds the channel's volume exactly when its output bit is set and its gate is 1. The sum is the
spec's where the accumulator is at most 240, so that it fits a byte; the instruction completes in any case (log entry 8). -/
def Obligations.MixStepAddsGatedVolume : Prop :=
  (∀ p (c : Chan), decode p (.mix (BitVec.ofNat 2 c.val)) = .ok (.mixStep c)) ∧
  ∀ (s : State) (c : Chan), ∃ t, exec (.mixStep c) s = .next t ∧
    t = { s with acc := t.acc, fresh := t.fresh, result := .unit } ∧ SameRom s t ∧
    let ctl := s.regs[2 * c.val + 1]
    let gated := distTable s.cfg (BitVec.ofNat 3 (ctl.toNat / 32)) (noiseIndex s) ∨
      (ctl.getLsbD 4 = true ∧ s.cfg.muteGated = false)
    (s.acc.toNat ≤ 240 → t.fresh = s.fresh ∧
      (s.ch[c].out = true ∧ gated → t.acc.toNat = s.acc.toNat + ctl.toNat % 16) ∧
      (¬ (s.ch[c].out = true ∧ gated) → t.acc = s.acc))

/-- R160: under valid parameters the rows 5 and 7 of the distortion table are all ones and every other row has a 0. -/
def Obligations.PureModesAlwaysGate : Prop :=
  ∀ p : Params, paramsValid p = true → ∀ m : BitVec 3,
    (m.toNat = 5 ∨ m.toNat = 7 → ∀ n, distTable p m n = true) ∧
    (m.toNat ≠ 5 ∧ m.toNat ≠ 7 → ∃ n, distTable p m n = false)

/-- R154: from tick state 0, the calls of ADVANCE return false eight times and true the ninth, and the tick state is 0 again. -/
def Obligations.NinthAdvanceCompletesSample : Prop :=
  ∀ s : State, s.step = 0 →
    (∀ k, 0 < k → k < 9 → ∃ t, execTimes .advance k s = some t ∧ t.result = .bool false) ∧
    ∃ t, execTimes .advance 9 s = some t ∧ t.result = .bool true ∧ t.step = 0

/-! ### The scheduler -/

/-- R181, R183: NOTE_ELAPSED under ALL turns every whole elapsed period into a unit of debt, under ONCE at most one; the debt
is clamped, and the phase moves over the whole periods even then. -/
def Obligations.NoteElapsedCreditsPeriods : Prop :=
  (∀ p bus t a2, t < 2 ^ p.cycleBits → decode p (.cmd 0x4000 bus t a2) = .ok (.noteElapsed t)) ∧
  ∀ (s : State) (T : Nat), s.lastSampled < 2 ^ s.cfg.cycleBits → T < 2 ^ s.cfg.cycleBits →
    let delta := elapsedCount s.cfg.cycleBits s.lastSampled T
    ∃ t, exec (.noteElapsed T) s = .next t ∧
      t = { s with debt := t.debt, lastSampled := t.lastSampled, result := .unit } ∧ SameRom s t ∧
      (s.cfg.schedCatchup = .all →
        t.debt = min s.cfg.debtMax (s.debt + delta / s.cfg.schedPeriod * s.cfg.schedUnit) ∧
        t.lastSampled = (s.lastSampled + delta / s.cfg.schedPeriod * s.cfg.schedPeriod) % 2 ^ s.cfg.cycleBits) ∧
      (s.cfg.schedCatchup = .once → s.cfg.schedPeriod ≤ delta →
        t.debt = min s.cfg.debtMax (s.debt + s.cfg.schedUnit) ∧
        t.lastSampled = (s.lastSampled + s.cfg.schedPeriod) % 2 ^ s.cfg.cycleBits) ∧
      (s.cfg.schedCatchup = .once → delta < s.cfg.schedPeriod → t.debt = s.debt ∧ t.lastSampled = s.lastSampled)

/-- R182: NOTE_ELAPSED moves the phase by a whole multiple of the period, within the elapsed count, and under ALL what is left of
the elapsed count is less than a period: no time is lost. -/
def Obligations.PhaseStaysAligned : Prop :=
  ∀ (s : State) (T : Nat), 1 ≤ s.cfg.schedPeriod → s.lastSampled < 2 ^ s.cfg.cycleBits → T < 2 ^ s.cfg.cycleBits →
    ∃ t, exec (.noteElapsed T) s = .next t ∧
      (∃ n, t.lastSampled = (s.lastSampled + n * s.cfg.schedPeriod) % 2 ^ s.cfg.cycleBits ∧
        n * s.cfg.schedPeriod + elapsedCount s.cfg.cycleBits t.lastSampled T =
          elapsedCount s.cfg.cycleBits s.lastSampled T) ∧
      (s.cfg.schedCatchup = .all → elapsedCount s.cfg.cycleBits t.lastSampled T < s.cfg.schedPeriod)

/-- R187: the closed form under ALL is the source's loop, run as long as the difference meets or exceeds the period; the loop
runs `delta // SCHED_PERIOD` rounds and then does nothing more. -/
def Obligations.ClosedFormIsTheLoop : Prop :=
  ∀ (s : State) (T : Nat), s.cfg.schedCatchup = .all → 1 ≤ s.cfg.schedPeriod → s.debt ≤ s.cfg.debtMax →
    s.lastSampled < 2 ^ s.cfg.cycleBits → T < 2 ^ s.cfg.cycleBits →
    let n := elapsedCount s.cfg.cycleBits s.lastSampled T / s.cfg.schedPeriod
    exec (.noteElapsed T) s = .next { noteLoop T n s with result := .unit } ∧
    ∀ k, noteLoop T (n + k) s = noteLoop T n s

/-- R185: when the counter has advanced by exactly `k` periods since count `T0`, the debt increases by `k` units under ALL, where
an earlier NOTE_ELAPSED at `T0` has left less than a period (R182), and by one unit under ONCE, clamped to the ceiling. -/
def Obligations.ExactPeriodsGiveExactDebt : Prop :=
  ∀ (s : State) (T0 k : Nat), 1 ≤ s.cfg.schedPeriod → s.debt ≤ s.cfg.debtMax →
    s.lastSampled < 2 ^ s.cfg.cycleBits → T0 < 2 ^ s.cfg.cycleBits →
    elapsedCount s.cfg.cycleBits s.lastSampled T0 + s.cfg.schedPeriod * k < 2 ^ s.cfg.cycleBits →
    ∃ t, exec (.noteElapsed ((T0 + s.cfg.schedPeriod * k) % 2 ^ s.cfg.cycleBits)) s = .next t ∧
      (s.cfg.schedCatchup = .all → elapsedCount s.cfg.cycleBits s.lastSampled T0 < s.cfg.schedPeriod →
        t.debt = s.debt + min (k * s.cfg.schedUnit) (s.cfg.debtMax - s.debt)) ∧
      (s.cfg.schedCatchup = .once → 1 ≤ k → t.debt = s.debt + min s.cfg.schedUnit (s.cfg.debtMax - s.debt))

/-- R184: CONSUME takes one unit and returns true if debt is owed; else it changes nothing and returns false. -/
def Obligations.ConsumeTakesOneUnit : Prop :=
  (∀ p bus t a2, decode p (.cmd 0x5000 bus t a2) = .ok .consume) ∧
  ∀ s : State, ∃ t, exec .consume s = .next t ∧ t = { s with debt := t.debt, result := t.result } ∧ SameRom s t ∧
    (0 < s.debt → t.debt + 1 = s.debt ∧ t.result = .bool true) ∧
    (s.debt = 0 → t.debt = 0 ∧ t.result = .bool false)

/-! ### The bus arbiter -/

/-- R62, R63: `romByte` gives the image's byte where the address falls in the table and 0xFF everywhere else. -/
def Obligations.RomByteReadsTableOrSentinel : Prop :=
  ∀ (s : State) (a : Addr),
    (∀ off, off < s.cfg.romSize → a.toNat = s.cfg.romBase.toNat + off → romByte s a = s.rom.read off) ∧
    (a.toNat < s.cfg.romBase.toNat → romByte s a = 0xFF) ∧
    (s.cfg.romBase.toNat + s.cfg.romSize ≤ a.toNat → romByte s a = 0xFF)

/-- R211, R216, R220: an iteration in the ROM region drives the byte whatever C, W and D are, does no engine work, marks a host
write, and accounts for time only under EVERY_ITERATION, as NOTE_ELAPSED does. -/
def Obligations.RomIterationDrives : Prop :=
  ∀ (s : State) (b : BusSample) (T : Nat) (a2 : Addr),
    s.cfg.romBase.toNat ≤ b.addr.toNat → (s.cfg.glitchFilter = true → a2 = b.addr) →
    ∃ t, exec (.busRom b T a2) s = .next t ∧ exec (.busIterate b T a2) s = .next t ∧
      t = { s with driving := true, events := s.events ++ [.driveData (romByte s b.addr)], faulted := t.faulted,
                   debt := t.debt, lastSampled := t.lastSampled, result := .unit } ∧
      SameRom s t ∧ SameEngine s t ∧
      (b.write = false → t.faulted = s.faulted) ∧
      (b.write = true → ∀ f, f ∈ t.faulted ↔ f ∈ s.faulted ∨ f = .hostWriteInRomRegion) ∧
      (s.cfg.accountPolicy ≠ .everyIteration → t.debt = s.debt ∧ t.lastSampled = s.lastSampled) ∧
      (s.cfg.accountPolicy = .everyIteration →
        ∃ u, exec (.noteElapsed T) s = .next u ∧ t.debt = u.debt ∧ t.lastSampled = u.lastSampled)

/-- R205: with the glitch filter on and two samples that differ, the iteration is discarded: nothing of the block changes and
no event is recorded. With the filter off the second sample has no effect. -/
def Obligations.GlitchedIterationIsDiscarded : Prop :=
  (∀ (s : State) (b : BusSample) (T : Nat) (a2 : Addr), s.cfg.glitchFilter = true → a2 ≠ b.addr →
    exec (.busIterate b T a2) s = .next { s with result := .unit } ∧
    exec (.busRom b T a2) s = .next { s with result := .unit } ∧
    exec (.busRegWrite b T a2) s = .next { s with result := .unit } ∧
    exec (.busLowActive b T a2) s = .next { s with result := .unit } ∧
    exec (.busLowDma b T a2) s = .next { s with result := .unit }) ∧
  ∀ (s : State) (b : BusSample) (T : Nat) (a2 : Addr), s.cfg.glitchFilter = false →
    exec (.busIterate b T a2) s = exec (.busIterate b T b.addr) s

/-- R212, R216: a LOW-region iteration with the DMA controller on the bus releases the bus if it was driven and does nothing
more but the accounting that LOW_ANY and EVERY_ITERATION ask for. -/
def Obligations.DmaIterationOnlyReleases : Prop :=
  ∀ (s : State) (b : BusSample) (T : Nat) (a2 : Addr),
    b.addr.toNat < s.cfg.romBase.toNat → b.cpuActive = false → (s.cfg.glitchFilter = true → a2 = b.addr) →
    ∃ t, exec (.busLowDma b T a2) s = .next t ∧ exec (.busIterate b T a2) s = .next t ∧
      t = { s with driving := false, events := s.events ++ (if s.driving then [.releaseBus] else []),
                   debt := t.debt, lastSampled := t.lastSampled, result := .unit } ∧
      SameRom s t ∧
      (s.cfg.accountPolicy = .lowCpuActive → t.debt = s.debt ∧ t.lastSampled = s.lastSampled) ∧
      (s.cfg.accountPolicy ≠ .lowCpuActive →
        ∃ u, exec (.noteElapsed T) s = .next u ∧ t.debt = u.debt ∧ t.lastSampled = u.lastSampled)

/-- R213: a write cycle of the host CPU at a window address writes the byte on the data lines to the register that the low
four address bits select, and to no other; the iteration releases the bus. -/
def Obligations.SniffedWriteReachesRegister : Prop :=
  ∀ (s : State) (b : BusSample) (T : Nat) (a2 : Addr),
    classify s.cfg b = .regWrite → (s.cfg.glitchFilter = true → a2 = b.addr) → s.step.toNat ≤ 8 →
    ∃ t, exec (.busRegWrite b T a2) s = .next t ∧ exec (.busIterate b T a2) s = .next t ∧
      (∀ i : Fin 16, t.regs[i] = if i.val = b.addr.toNat % 16 then b.data else s.regs[i]) ∧
      t.driving = false ∧ t.faulted = s.faulted ∧ t.result = .unit ∧ SameRom s t

/-- R212, R214, R215, under every accounting policy: an iteration with the host CPU on the bus and no sniff is, in order: the release,
NOTE_ELAPSED, CONSUME, and, only if that returned true, one ADVANCE, with the sample emitted through OUTPUT_SCALE if the
ADVANCE returned true. -/
def Obligations.ActiveIterationIsItsSubSteps : Prop :=
  ∀ (s : State) (b : BusSample) (T : Nat) (a2 : Addr),
    classify s.cfg b = .lowActive → (s.cfg.glitchFilter = true → a2 = b.addr) → s.step.toNat ≤ 8 →
    ∃ s1 s2 t,
      exec (.noteElapsed T) { s with driving := false, events := s.events ++ (if s.driving then [.releaseBus] else []) } = .next s1 ∧
      exec .consume s1 = .next s2 ∧ exec (.busLowActive b T a2) s = .next t ∧ exec (.busIterate b T a2) s = .next t ∧
      (s1.debt = 0 → t = s1) ∧
      (0 < s1.debt → ∃ s3, exec .advance s2 = .next s3 ∧
        t = { s3 with result := .unit, events := s3.events ++
          (if s3.result = .bool true then [.emitSample (outputScale s.cfg s3.sample)] else []) })

/-- R72, R212, R213, R148: the same for an iteration that sniffs: the register write stands between the accounting and the
consumption, so the tick step of the same iteration sees it. -/
def Obligations.SniffComesBeforeTheTick : Prop :=
  ∀ (s : State) (b : BusSample) (T : Nat) (a2 : Addr),
    classify s.cfg b = .regWrite → (s.cfg.glitchFilter = true → a2 = b.addr) → s.step.toNat ≤ 8 →
    ∃ s1 sw s2 t,
      exec (.noteElapsed T) { s with driving := false, events := s.events ++ (if s.driving then [.releaseBus] else []) } = .next s1 ∧
      exec (decodeWrite (BitVec.ofNat 4 (b.addr.toNat % 16)) b.data) s1 = .next sw ∧
      exec .consume sw = .next s2 ∧ exec (.busRegWrite b T a2) s = .next t ∧
      (s1.debt = 0 → t = sw) ∧
      (0 < s1.debt → ∃ s3, exec .advance s2 = .next s3 ∧
        t = { s3 with result := .unit, events := s3.events ++
          (if s3.result = .bool true then [.emitSample (outputScale s.cfg s3.sample)] else []) })

/-- R87, R210: BUS_ITERATE on a sample is the instruction of the sample's class. -/
def Obligations.IterationIsItsClass : Prop :=
  ∀ (s : State) (b : BusSample) (T : Nat) (a2 : Addr),
    exec (.busIterate b T a2) s = exec (decodeBus s.cfg b T a2) s

/-- R87, R201, R202: the classes under valid parameters, by address ranges: first ROM, then the window with C and W set, then
C, then the rest. -/
def Obligations.ClassesFollowAddressRanges : Prop :=
  ∀ (p : Params) (b : BusSample), paramsValid p = true →
    (classify p b = .rom ↔ p.romBase.toNat ≤ b.addr.toNat) ∧
    (classify p b = .regWrite ↔ b.cpuActive = true ∧ b.write = true ∧
      p.regWindowBase.toNat ≤ b.addr.toNat ∧ b.addr.toNat ≤ p.regWindowBase.toNat + 15) ∧
    (classify p b = .lowActive ↔ b.addr.toNat < p.romBase.toNat ∧ b.cpuActive = true ∧
      ¬ (b.write = true ∧ p.regWindowBase.toNat ≤ b.addr.toNat ∧ b.addr.toNat ≤ p.regWindowBase.toNat + 15)) ∧
    (classify p b = .lowDma ↔ b.addr.toNat < p.romBase.toNat ∧ b.cpuActive = false) ∧
    (classify p b = .regWrite → (regIndex b.addr).toNat = b.addr.toNat - p.regWindowBase.toNat)

/-- R217: an iteration records at most one drive, one release and one sample, and never both a drive and a release. -/
def Obligations.IterationEmitsAtMostOneOfEach : Prop :=
  ∀ (s t : State) (b : BusSample) (T : Nat) (a2 : Addr), exec (.busIterate b T a2) s = .next t →
    ∃ es, t.events = s.events ++ es ∧ countEvents Event.isDrive es ≤ 1 ∧ countEvents Event.isRelease es ≤ 1 ∧
      countEvents Event.isEmit es ≤ 1 ∧ (countEvents Event.isDrive es = 0 ∨ countEvents Event.isRelease es = 0) ∧
      t.debt + 1 ≥ min s.debt t.cfg.debtMax

/-- R218: no synthesis, sniff or emission happens in an iteration whose address is in the ROM region, and no debt is consumed
there. -/
def Obligations.RomIterationDoesNoSynthesis : Prop :=
  ∀ (s t : State) (b : BusSample) (T : Nat) (a2 : Addr), s.cfg.romBase.toNat ≤ b.addr.toNat →
    exec (.busIterate b T a2) s = .next t →
    SameEngine s t ∧ countEvents Event.isEmit t.events = countEvents Event.isEmit s.events ∧
      (s.debt ≤ s.cfg.debtMax → s.debt ≤ t.debt)

/-- R204, R219: an iteration that is not discarded leaves the arbiter DRIVING exactly when its address is in the ROM region,
and releases the bus exactly on the falling edge. -/
def Obligations.ReleaseOnlyOnFallingEdge : Prop :=
  ∀ (s t : State) (b : BusSample) (T : Nat) (a2 : Addr), (s.cfg.glitchFilter = true → a2 = b.addr) →
    exec (.busIterate b T a2) s = .next t →
    (t.driving = true ↔ s.cfg.romBase.toNat ≤ b.addr.toNat) ∧
    countEvents Event.isRelease t.events =
      countEvents Event.isRelease s.events + if s.driving = true ∧ b.addr.toNat < s.cfg.romBase.toNat then 1 else 0

/-- R89: the data byte is ignored in every iteration that does not sniff. -/
def Obligations.DataByteMattersOnlyInSniff : Prop :=
  ∀ (s : State) (b : BusSample) (d : Byte) (T : Nat) (a2 : Addr), classify s.cfg b ≠ .regWrite →
    exec (.busIterate { b with data := d } T a2) s = exec (.busIterate b T a2) s

/-- R221, R200: every bus sample, and every draw of the environment, leads to a next state: the block never halts. -/
def Obligations.EveryBusSampleHasNextState : Prop :=
  ∀ s : State, s.refused = none → paramsValid s.cfg = true → s.step.toNat ≤ 8 →
    (s.inputs = [] ∨ ∃ w T a2 rest, s.inputs = .bus w T a2 :: rest) → ∃ t, step s = .next t

/-! ### Reset -/

/-- R260, R186: BLOCK_RESET leaves the reset state of R43, with `lastSampled` at its operand; the marks, the event history, the
image and the parameters stay. -/
def Obligations.BlockResetRestoresResetState : Prop :=
  (∀ p bus c0 a2, c0 < 2 ^ p.cycleBits → decode p (.cmd 0x7000 bus c0 a2) = .ok (.blockReset c0)) ∧
  ∀ (s : State) (c0 : Nat), c0 < 2 ^ s.cfg.cycleBits → ∃ t, exec (.blockReset c0) s = .next t ∧
    t = { s with regs := t.regs, ch := t.ch, lfsr4 := 0xF, lfsr5 := 0x1F, lfsr9 := 0x1FF, lfsr17 := 0x1FFFF,
                 step := 0, acc := 0, sample := 0, debt := 0, lastSampled := c0, driving := false, result := .unit } ∧
    (∀ i : Fin 16, t.regs[i] = 0) ∧ (∀ c : Chan, t.ch[c] = { divisor := 0, counter := 0, out := false }) ∧ SameRom s t

/-- R43, R261: the state after power-on is that of a whole-block reset at some cycle count. -/
def Obligations.PowerOnIsBlockReset : Prop :=
  (∀ i : Fin 16, State.reset.regs[i] = 0) ∧
  (∀ c : Chan, State.reset.ch[c] = { divisor := 0, counter := 0, out := false }) ∧
  State.reset.lfsr4 = 0xF ∧ State.reset.lfsr5 = 0x1F ∧ State.reset.lfsr9 = 0x1FF ∧ State.reset.lfsr17 = 0x1FFFF ∧
  State.reset.step = 0 ∧ State.reset.acc = 0 ∧ State.reset.sample = 0 ∧ State.reset.debt = 0 ∧
  State.reset.driving = false ∧
  ∃ c0, c0 < 2 ^ State.reset.cfg.cycleBits ∧ State.reset.lastSampled = c0 ∧
    exec (.blockReset c0) State.reset = .next State.reset

/-! ### Decoding and encoding -/

/-- R90: decoding the encoding of a well-formed instruction gives the instruction back, with every operand. -/
def Obligations.DecodeEncodeRoundTrip : Prop :=
  ∀ (p : Params) (i : Instr), WellFormed p i = true → decode p (encode i) = .ok i

/-- R90: what the decoder gives is well formed. (That a cycle count handed over with too many bits is reduced to CYCLE_BITS bits is
log entry 10, the model's choice.) -/
def Obligations.DecodedIsWellFormed : Prop :=
  ∀ (p : Params) (x : Input) (i : Instr), decode p x = .ok i → WellFormed p i = true

/-- R86, R88: a word determines its instruction and is determined by it: encoding what a word decodes to gives the word back.
(A cycle count beside a BUS word comes back by its low CYCLE_BITS bits: log entry 10, the model's choice.) -/
def Obligations.EncodeDecodeGivesTheWord : Prop :=
  ∀ (p : Params) (i : Instr),
    (∀ w bus T a2, decode p (.cmd w bus T a2) = .ok i → ∃ bus' T' a2', encode i = .cmd w bus' T' a2') ∧
    (∀ w T a2, decode p (.bus w T a2) = .ok i → encode i = .bus w (T % 2 ^ p.cycleBits) a2) ∧
    (∀ w, decode p (.tick w) = .ok i → encode i = .tick w) ∧
    (∀ w, decode p (.noise w) = .ok i → encode i = .noise w) ∧
    (∀ w, decode p (.timer w) = .ok i → encode i = .timer w) ∧
    (∀ w, decode p (.mix w) = .ok i → encode i = .mix w)

/-- R89: a CMD word is rejected exactly when its OP is 0 or 2..7 and its IDX or VAL is not zero; no other input is.
(That an OP of 8..15 with other bits set is not is log entry 11, the model's reading.) -/
def Obligations.OnlyReservedBitsAreRejected : Prop :=
  ∀ (p : Params) (x : Input),
    decode p x = .error .reservedBits ↔
      ∃ w bus T a2, x = .cmd w bus T a2 ∧ w.toNat / 4096 < 8 ∧ w.toNat / 4096 ≠ 1 ∧ w.toNat % 4096 ≠ 0

/-- R89, R233: reserved operation codes, reserved bits and reserved tick values are refused by name. That a word with OP 8..15 and
a non-zero IDX or VAL, which meets two lines of R89, is refused with `reservedOp` is the model's reading (log entry 11). -/
def Obligations.ReservedEncodingsAreRefused : Prop :=
  (∀ (s : State) (low : BitVec 15), exec (.reservedOp low) s = .refused .reservedOp) ∧
  (∀ (s : State) (v : BitVec 4), exec (.tickReserved v) s = .refused .badTickState) ∧
  ∀ (s : State) (rest : List Input), s.refused = none → paramsValid s.cfg = true → s.step.toNat ≤ 8 →
    (∀ (w : BitVec 16) bus T a2, 8 ≤ w.toNat / 4096 →
      step { s with inputs := .cmd w bus T a2 :: rest } = .refused .reservedOp) ∧
    (∀ (w : BitVec 16) bus T a2, w.toNat / 4096 < 8 → w.toNat / 4096 ≠ 1 → w.toNat % 4096 ≠ 0 →
      step { s with inputs := .cmd w bus T a2 :: rest } = .refused .reservedBits) ∧
    (∀ v : BitVec 4, 9 ≤ v.toNat → step { s with inputs := .tick v :: rest } = .refused .badTickState)

/-- The lines of R91's table and R92's pseudo-operations decode to the operations they stand for. (The second address sample of
READ and POKE is the first again: log entry 13, the model's choice.) -/
def Obligations.AssemblerLinesDecode : Prop :=
  ∀ (p : Params),
    (∀ idx val, decode p (asmInput (.wr idx val)) = .ok (decodeWrite idx val)) ∧
    (∀ T, T < 2 ^ p.cycleBits → decode p (asmInput (.note T)) = .ok (.noteElapsed T) ∧
      decode p (asmInput (.breset T)) = .ok (.blockReset T)) ∧
    (∀ a d c w T a2, T < 2 ^ p.cycleBits →
      decode p (asmInput (.bus a d c w T a2)) = .ok (.busIterate { data := d, cpuActive := c, write := w, addr := a } T a2)) ∧
    decode p (asmInput .reset) = .ok .reset ∧ decode p (asmInput .adv) = .ok .advance ∧
    decode p (asmInput .out) = .ok .currentOutput ∧ decode p (asmInput .consume) = .ok .consume ∧
    asmAdv9.map (fun l => decode p (asmInput l)) = List.replicate 9 (.ok .advance) ∧
    asmStimer.map (fun l => decode p (asmInput l)) = [.ok (.writeStimer 0)] ∧
    (∀ c div ctl, (asmTone c div ctl).map (fun l => decode p (asmInput l)) = [.ok (.writeDiv c div), .ok (.writeCtl c ctl)]) ∧
    (∀ c, (asmMute c).map (fun l => decode p (asmInput l)) = [.ok (.writeCtl c 0x10)]) ∧
    ∀ a d T, T < 2 ^ p.cycleBits →
      (asmRead a T).map (fun l => decode p (asmInput l)) =
        [.ok (.busIterate { data := 0, cpuActive := true, write := false, addr := a } T a)] ∧
      (asmPoke a d T).map (fun l => decode p (asmInput l)) =
        [.ok (.busIterate { data := d, cpuActive := true, write := true, addr := a } T a)]

/-- Words written out from the encodings of R82, R86 and the vectors L2.5 and L2.11, at the parameters of reset: a sanity check. -/
def Obligations.SampleWordsDecode : Prop :=
  decodeTableWord 16 0x100A = some (.writeDiv 0 0x0A) ∧ decodeTableWord 16 0x16FF = some (.writeDiv 3 0xFF) ∧
  decodeTableWord 16 0x11AF = some (.writeCtl 0 0xAF) ∧ decodeTableWord 16 0x1900 = some (.writeStimer 0) ∧
  decodeTableWord 16 0x1F80 = some (.writePlain 15 0x80) ∧ decodeTableWord 16 0x2001 = none ∧
  decodeTableWord 26 0x02B0460 =
    some (.busRegWrite { data := 0x0A, cpuActive := true, write := true, addr := 0x0460 } 0 0)

/-! ### The step, and the whole machine -/

/-- R10: in a state that is not refused, when the oldest placed input decodes to `i`, a step is `exec` of `i` in the state
without that input; a step adds nothing else. -/
def Obligations.StepRunsDecodedInstruction : Prop :=
  ∀ (s : State) (x : Input) (rest : List Input) (i : Instr),
    s.refused = none → paramsValid s.cfg = true → s.step.toNat ≤ 8 → s.inputs = x :: rest → decode s.cfg x = .ok i →
    step s = exec i { s with inputs := rest }

/-- R262, R200: with nothing placed, a step is one bus iteration on a sample that nothing constrains (log entry 2, the model's
choice of how the environment's draws enter). -/
def Obligations.IdleStepIsBusIteration : Prop :=
  ∀ s : State, s.refused = none → paramsValid s.cfg = true → s.step.toNat ≤ 8 → s.inputs = [] →
    ∃ b T a2, T < 2 ^ s.cfg.cycleBits ∧ step s = exec (.busIterate b T a2) { s with fresh := s.fresh + 1 }

/-- R233: a state that is marked refused, or holds parameters that break R8, or a tick state above 8, has no step. Which reason is
answered where two of the three hold (the mark's first, then `badConfig`) is the model's order (log entry 17). -/
def Obligations.RefusedStatesHaveNoStep : Prop :=
  ∀ s : State,
    (∀ r, s.refused = some r → step s = .refused r) ∧
    (s.refused = none → paramsValid s.cfg = false → step s = .refused .badConfig) ∧
    (s.refused = none → paramsValid s.cfg = true → 8 < s.step.toNat → step s = .refused .badTickState)

/-- R233, R41: the refusal mark is sticky: the state kept after a refused step has no step, for the same reason. The kept state is
`settle`, which no step calls: the model's choice (log entry 18); that its mark's reason goes first is log entry 17. -/
def Obligations.RefusalIsSticky : Prop :=
  ∀ (s : State) (r : Refusal), step s = .refused r →
    (settle s (step s)).refused = some r ∧ step (settle s (step s)) = .refused r

/-- R42, R64, R232, R260: no instruction changes a parameter, a byte of the image, or the refusal mark, and none removes a
fault mark or an event. -/
def Obligations.ImageAndMarksSurviveEveryInstruction : Prop :=
  ∀ (i : Instr) (s t : State), exec i s = .next t →
    t.cfg = s.cfg ∧ t.rom = s.rom ∧ SameRom s t ∧ t.refused = s.refused ∧ t.inputs = s.inputs ∧
    (∃ es, t.events = s.events ++ es) ∧ ∀ f, f ∈ s.faulted → f ∈ t.faulted

/-- The invariant holds after reset, and the parameters of reset are valid (R8, R43). -/
def Obligations.ResetMeetsInvariants : Prop :=
  BlockInv State.reset ∧ Tidy State.reset ∧ paramsValid State.reset.cfg = true

/-- R26, R29, R30, R34: every step keeps the invariant, from every state that meets it and with anything in the input queue:
the divisors mirror their registers, no generator locks up, the tick state is legal, the debt is within its ceiling, the
phase fits the counter's width, the image is canonical and the fault marks are a set. -/
def Obligations.EveryStepKeepsInvariant : Prop :=
  ∀ s t : State, BlockInv s → step s = .next t → BlockInv t

/-- R31, R164: in a machine that is only handed interface operations and bus samples, every step keeps the accumulator within
the range of its tick state (0..60 over all) and the sample the scale of a sum in 0..60. -/
def Obligations.EveryStepKeepsSampleRange : Prop :=
  ∀ s t : State, Tidy s → step s = .next t → Tidy t ∧ t.acc.toNat ≤ 60
end

