-- ==== Sys2Proof/Laws/State.lean ====
section
/-!
SUPPORT. What each named update of the state does to each field, and what the shared operations leave unchanged: one small
lemma each, true by unfolding, so that no proof unfolds a record update again.
-/
namespace Sys2Proof.Machine

@[simp] theorem State.setReg_regs (s : State) (idx : BitVec 4) (v : Byte) : (s.setReg idx v).regs = s.regs.set idx.toNat v := rfl
@[simp] theorem State.setReg_ch (s : State) (idx : BitVec 4) (v : Byte) : (s.setReg idx v).ch = s.ch := rfl
@[simp] theorem State.setReg_lfsr4 (s : State) (idx : BitVec 4) (v : Byte) : (s.setReg idx v).lfsr4 = s.lfsr4 := rfl
@[simp] theorem State.setReg_lfsr5 (s : State) (idx : BitVec 4) (v : Byte) : (s.setReg idx v).lfsr5 = s.lfsr5 := rfl
@[simp] theorem State.setReg_lfsr9 (s : State) (idx : BitVec 4) (v : Byte) : (s.setReg idx v).lfsr9 = s.lfsr9 := rfl
@[simp] theorem State.setReg_lfsr17 (s : State) (idx : BitVec 4) (v : Byte) : (s.setReg idx v).lfsr17 = s.lfsr17 := rfl
@[simp] theorem State.setReg_step (s : State) (idx : BitVec 4) (v : Byte) : (s.setReg idx v).step = s.step := rfl
@[simp] theorem State.setReg_acc (s : State) (idx : BitVec 4) (v : Byte) : (s.setReg idx v).acc = s.acc := rfl
@[simp] theorem State.setReg_sample (s : State) (idx : BitVec 4) (v : Byte) : (s.setReg idx v).sample = s.sample := rfl
@[simp] theorem State.setReg_debt (s : State) (idx : BitVec 4) (v : Byte) : (s.setReg idx v).debt = s.debt := rfl
@[simp] theorem State.setReg_lastSampled (s : State) (idx : BitVec 4) (v : Byte) : (s.setReg idx v).lastSampled = s.lastSampled := rfl
@[simp] theorem State.setReg_driving (s : State) (idx : BitVec 4) (v : Byte) : (s.setReg idx v).driving = s.driving := rfl
@[simp] theorem State.setReg_faulted (s : State) (idx : BitVec 4) (v : Byte) : (s.setReg idx v).faulted = s.faulted := rfl
@[simp] theorem State.setReg_refused (s : State) (idx : BitVec 4) (v : Byte) : (s.setReg idx v).refused = s.refused := rfl
@[simp] theorem State.setReg_events (s : State) (idx : BitVec 4) (v : Byte) : (s.setReg idx v).events = s.events := rfl
@[simp] theorem State.setReg_rom (s : State) (idx : BitVec 4) (v : Byte) : (s.setReg idx v).rom = s.rom := rfl
@[simp] theorem State.setReg_cfg (s : State) (idx : BitVec 4) (v : Byte) : (s.setReg idx v).cfg = s.cfg := rfl
@[simp] theorem State.setReg_result (s : State) (idx : BitVec 4) (v : Byte) : (s.setReg idx v).result = s.result := rfl
@[simp] theorem State.setReg_inputs (s : State) (idx : BitVec 4) (v : Byte) : (s.setReg idx v).inputs = s.inputs := rfl
@[simp] theorem State.setReg_fresh (s : State) (idx : BitVec 4) (v : Byte) : (s.setReg idx v).fresh = s.fresh := rfl

@[simp] theorem State.setChannel_regs (s : State) (c : Chan) (x : Channel) : (s.setChannel c x).regs = s.regs := rfl
@[simp] theorem State.setChannel_ch (s : State) (c : Chan) (x : Channel) : (s.setChannel c x).ch = s.ch.set c x := rfl
@[simp] theorem State.setChannel_lfsr4 (s : State) (c : Chan) (x : Channel) : (s.setChannel c x).lfsr4 = s.lfsr4 := rfl
@[simp] theorem State.setChannel_lfsr5 (s : State) (c : Chan) (x : Channel) : (s.setChannel c x).lfsr5 = s.lfsr5 := rfl
@[simp] theorem State.setChannel_lfsr9 (s : State) (c : Chan) (x : Channel) : (s.setChannel c x).lfsr9 = s.lfsr9 := rfl
@[simp] theorem State.setChannel_lfsr17 (s : State) (c : Chan) (x : Channel) : (s.setChannel c x).lfsr17 = s.lfsr17 := rfl
@[simp] theorem State.setChannel_step (s : State) (c : Chan) (x : Channel) : (s.setChannel c x).step = s.step := rfl
@[simp] theorem State.setChannel_acc (s : State) (c : Chan) (x : Channel) : (s.setChannel c x).acc = s.acc := rfl
@[simp] theorem State.setChannel_sample (s : State) (c : Chan) (x : Channel) : (s.setChannel c x).sample = s.sample := rfl
@[simp] theorem State.setChannel_debt (s : State) (c : Chan) (x : Channel) : (s.setChannel c x).debt = s.debt := rfl
@[simp] theorem State.setChannel_lastSampled (s : State) (c : Chan) (x : Channel) : (s.setChannel c x).lastSampled = s.lastSampled := rfl
@[simp] theorem State.setChannel_driving (s : State) (c : Chan) (x : Channel) : (s.setChannel c x).driving = s.driving := rfl
@[simp] theorem State.setChannel_faulted (s : State) (c : Chan) (x : Channel) : (s.setChannel c x).faulted = s.faulted := rfl
@[simp] theorem State.setChannel_refused (s : State) (c : Chan) (x : Channel) : (s.setChannel c x).refused = s.refused := rfl
@[simp] theorem State.setChannel_events (s : State) (c : Chan) (x : Channel) : (s.setChannel c x).events = s.events := rfl
@[simp] theorem State.setChannel_rom (s : State) (c : Chan) (x : Channel) : (s.setChannel c x).rom = s.rom := rfl
@[simp] theorem State.setChannel_cfg (s : State) (c : Chan) (x : Channel) : (s.setChannel c x).cfg = s.cfg := rfl
@[simp] theorem State.setChannel_result (s : State) (c : Chan) (x : Channel) : (s.setChannel c x).result = s.result := rfl
@[simp] theorem State.setChannel_inputs (s : State) (c : Chan) (x : Channel) : (s.setChannel c x).inputs = s.inputs := rfl
@[simp] theorem State.setChannel_fresh (s : State) (c : Chan) (x : Channel) : (s.setChannel c x).fresh = s.fresh := rfl

@[simp] theorem State.emit_regs (s : State) (e : Event) : (s.emit e).regs = s.regs := rfl
@[simp] theorem State.emit_ch (s : State) (e : Event) : (s.emit e).ch = s.ch := rfl
@[simp] theorem State.emit_lfsr4 (s : State) (e : Event) : (s.emit e).lfsr4 = s.lfsr4 := rfl
@[simp] theorem State.emit_lfsr5 (s : State) (e : Event) : (s.emit e).lfsr5 = s.lfsr5 := rfl
@[simp] theorem State.emit_lfsr9 (s : State) (e : Event) : (s.emit e).lfsr9 = s.lfsr9 := rfl
@[simp] theorem State.emit_lfsr17 (s : State) (e : Event) : (s.emit e).lfsr17 = s.lfsr17 := rfl
@[simp] theorem State.emit_step (s : State) (e : Event) : (s.emit e).step = s.step := rfl
@[simp] theorem State.emit_acc (s : State) (e : Event) : (s.emit e).acc = s.acc := rfl
@[simp] theorem State.emit_sample (s : State) (e : Event) : (s.emit e).sample = s.sample := rfl
@[simp] theorem State.emit_debt (s : State) (e : Event) : (s.emit e).debt = s.debt := rfl
@[simp] theorem State.emit_lastSampled (s : State) (e : Event) : (s.emit e).lastSampled = s.lastSampled := rfl
@[simp] theorem State.emit_driving (s : State) (e : Event) : (s.emit e).driving = s.driving := rfl
@[simp] theorem State.emit_faulted (s : State) (e : Event) : (s.emit e).faulted = s.faulted := rfl
@[simp] theorem State.emit_refused (s : State) (e : Event) : (s.emit e).refused = s.refused := rfl
@[simp] theorem State.emit_events (s : State) (e : Event) : (s.emit e).events = s.events ++ [e] := rfl
@[simp] theorem State.emit_rom (s : State) (e : Event) : (s.emit e).rom = s.rom := rfl
@[simp] theorem State.emit_cfg (s : State) (e : Event) : (s.emit e).cfg = s.cfg := rfl
@[simp] theorem State.emit_result (s : State) (e : Event) : (s.emit e).result = s.result := rfl
@[simp] theorem State.emit_inputs (s : State) (e : Event) : (s.emit e).inputs = s.inputs := rfl
@[simp] theorem State.emit_fresh (s : State) (e : Event) : (s.emit e).fresh = s.fresh := rfl

@[simp] theorem State.returning_regs (s : State) (r : Result) : (s.returning r).regs = s.regs := rfl
@[simp] theorem State.returning_ch (s : State) (r : Result) : (s.returning r).ch = s.ch := rfl
@[simp] theorem State.returning_lfsr4 (s : State) (r : Result) : (s.returning r).lfsr4 = s.lfsr4 := rfl
@[simp] theorem State.returning_lfsr5 (s : State) (r : Result) : (s.returning r).lfsr5 = s.lfsr5 := rfl
@[simp] theorem State.returning_lfsr9 (s : State) (r : Result) : (s.returning r).lfsr9 = s.lfsr9 := rfl
@[simp] theorem State.returning_lfsr17 (s : State) (r : Result) : (s.returning r).lfsr17 = s.lfsr17 := rfl
@[simp] theorem State.returning_step (s : State) (r : Result) : (s.returning r).step = s.step := rfl
@[simp] theorem State.returning_acc (s : State) (r : Result) : (s.returning r).acc = s.acc := rfl
@[simp] theorem State.returning_sample (s : State) (r : Result) : (s.returning r).sample = s.sample := rfl
@[simp] theorem State.returning_debt (s : State) (r : Result) : (s.returning r).debt = s.debt := rfl
@[simp] theorem State.returning_lastSampled (s : State) (r : Result) : (s.returning r).lastSampled = s.lastSampled := rfl
@[simp] theorem State.returning_driving (s : State) (r : Result) : (s.returning r).driving = s.driving := rfl
@[simp] theorem State.returning_faulted (s : State) (r : Result) : (s.returning r).faulted = s.faulted := rfl
@[simp] theorem State.returning_refused (s : State) (r : Result) : (s.returning r).refused = s.refused := rfl
@[simp] theorem State.returning_events (s : State) (r : Result) : (s.returning r).events = s.events := rfl
@[simp] theorem State.returning_rom (s : State) (r : Result) : (s.returning r).rom = s.rom := rfl
@[simp] theorem State.returning_cfg (s : State) (r : Result) : (s.returning r).cfg = s.cfg := rfl
@[simp] theorem State.returning_result (s : State) (r : Result) : (s.returning r).result = r := rfl
@[simp] theorem State.returning_inputs (s : State) (r : Result) : (s.returning r).inputs = s.inputs := rfl
@[simp] theorem State.returning_fresh (s : State) (r : Result) : (s.returning r).fresh = s.fresh := rfl

@[simp] theorem State.setDriving_regs (s : State) (d : Bool) : (s.setDriving d).regs = s.regs := rfl
@[simp] theorem State.setDriving_ch (s : State) (d : Bool) : (s.setDriving d).ch = s.ch := rfl
@[simp] theorem State.setDriving_lfsr4 (s : State) (d : Bool) : (s.setDriving d).lfsr4 = s.lfsr4 := rfl
@[simp] theorem State.setDriving_lfsr5 (s : State) (d : Bool) : (s.setDriving d).lfsr5 = s.lfsr5 := rfl
@[simp] theorem State.setDriving_lfsr9 (s : State) (d : Bool) : (s.setDriving d).lfsr9 = s.lfsr9 := rfl
@[simp] theorem State.setDriving_lfsr17 (s : State) (d : Bool) : (s.setDriving d).lfsr17 = s.lfsr17 := rfl
@[simp] theorem State.setDriving_step (s : State) (d : Bool) : (s.setDriving d).step = s.step := rfl
@[simp] theorem State.setDriving_acc (s : State) (d : Bool) : (s.setDriving d).acc = s.acc := rfl
@[simp] theorem State.setDriving_sample (s : State) (d : Bool) : (s.setDriving d).sample = s.sample := rfl
@[simp] theorem State.setDriving_debt (s : State) (d : Bool) : (s.setDriving d).debt = s.debt := rfl
@[simp] theorem State.setDriving_lastSampled (s : State) (d : Bool) : (s.setDriving d).lastSampled = s.lastSampled := rfl
@[simp] theorem State.setDriving_driving (s : State) (d : Bool) : (s.setDriving d).driving = d := rfl
@[simp] theorem State.setDriving_faulted (s : State) (d : Bool) : (s.setDriving d).faulted = s.faulted := rfl
@[simp] theorem State.setDriving_refused (s : State) (d : Bool) : (s.setDriving d).refused = s.refused := rfl
@[simp] theorem State.setDriving_events (s : State) (d : Bool) : (s.setDriving d).events = s.events := rfl
@[simp] theorem State.setDriving_rom (s : State) (d : Bool) : (s.setDriving d).rom = s.rom := rfl
@[simp] theorem State.setDriving_cfg (s : State) (d : Bool) : (s.setDriving d).cfg = s.cfg := rfl
@[simp] theorem State.setDriving_result (s : State) (d : Bool) : (s.setDriving d).result = s.result := rfl
@[simp] theorem State.setDriving_inputs (s : State) (d : Bool) : (s.setDriving d).inputs = s.inputs := rfl
@[simp] theorem State.setDriving_fresh (s : State) (d : Bool) : (s.setDriving d).fresh = s.fresh := rfl

@[simp] theorem State.markFault_regs (s : State) (f : Fault) : (s.markFault f).regs = s.regs := rfl
@[simp] theorem State.markFault_ch (s : State) (f : Fault) : (s.markFault f).ch = s.ch := rfl
@[simp] theorem State.markFault_lfsr4 (s : State) (f : Fault) : (s.markFault f).lfsr4 = s.lfsr4 := rfl
@[simp] theorem State.markFault_lfsr5 (s : State) (f : Fault) : (s.markFault f).lfsr5 = s.lfsr5 := rfl
@[simp] theorem State.markFault_lfsr9 (s : State) (f : Fault) : (s.markFault f).lfsr9 = s.lfsr9 := rfl
@[simp] theorem State.markFault_lfsr17 (s : State) (f : Fault) : (s.markFault f).lfsr17 = s.lfsr17 := rfl
@[simp] theorem State.markFault_step (s : State) (f : Fault) : (s.markFault f).step = s.step := rfl
@[simp] theorem State.markFault_acc (s : State) (f : Fault) : (s.markFault f).acc = s.acc := rfl
@[simp] theorem State.markFault_sample (s : State) (f : Fault) : (s.markFault f).sample = s.sample := rfl
@[simp] theorem State.markFault_debt (s : State) (f : Fault) : (s.markFault f).debt = s.debt := rfl
@[simp] theorem State.markFault_lastSampled (s : State) (f : Fault) : (s.markFault f).lastSampled = s.lastSampled := rfl
@[simp] theorem State.markFault_driving (s : State) (f : Fault) : (s.markFault f).driving = s.driving := rfl
@[simp] theorem State.markFault_faulted (s : State) (f : Fault) : (s.markFault f).faulted = if f ∈ s.faulted then s.faulted else s.faulted ++ [f] := rfl
@[simp] theorem State.markFault_refused (s : State) (f : Fault) : (s.markFault f).refused = s.refused := rfl
@[simp] theorem State.markFault_events (s : State) (f : Fault) : (s.markFault f).events = s.events := rfl
@[simp] theorem State.markFault_rom (s : State) (f : Fault) : (s.markFault f).rom = s.rom := rfl
@[simp] theorem State.markFault_cfg (s : State) (f : Fault) : (s.markFault f).cfg = s.cfg := rfl
@[simp] theorem State.markFault_result (s : State) (f : Fault) : (s.markFault f).result = s.result := rfl
@[simp] theorem State.markFault_inputs (s : State) (f : Fault) : (s.markFault f).inputs = s.inputs := rfl
@[simp] theorem State.markFault_fresh (s : State) (f : Fault) : (s.markFault f).fresh = s.fresh := rfl

@[simp] theorem engineReset_debt (s : State) : (engineReset s).debt = s.debt := rfl
@[simp] theorem engineReset_lastSampled (s : State) : (engineReset s).lastSampled = s.lastSampled := rfl
@[simp] theorem engineReset_driving (s : State) : (engineReset s).driving = s.driving := rfl
@[simp] theorem engineReset_faulted (s : State) : (engineReset s).faulted = s.faulted := rfl
@[simp] theorem engineReset_refused (s : State) : (engineReset s).refused = s.refused := rfl
@[simp] theorem engineReset_events (s : State) : (engineReset s).events = s.events := rfl
@[simp] theorem engineReset_rom (s : State) : (engineReset s).rom = s.rom := rfl
@[simp] theorem engineReset_cfg (s : State) : (engineReset s).cfg = s.cfg := rfl
@[simp] theorem engineReset_result (s : State) : (engineReset s).result = s.result := rfl
@[simp] theorem engineReset_inputs (s : State) : (engineReset s).inputs = s.inputs := rfl
@[simp] theorem engineReset_fresh (s : State) : (engineReset s).fresh = s.fresh := rfl

@[simp] theorem stepLfsr4_regs (s : State) : (stepLfsr4 s).regs = s.regs := rfl
@[simp] theorem stepLfsr4_ch (s : State) : (stepLfsr4 s).ch = s.ch := rfl
@[simp] theorem stepLfsr4_lfsr5 (s : State) : (stepLfsr4 s).lfsr5 = s.lfsr5 := rfl
@[simp] theorem stepLfsr4_lfsr9 (s : State) : (stepLfsr4 s).lfsr9 = s.lfsr9 := rfl
@[simp] theorem stepLfsr4_lfsr17 (s : State) : (stepLfsr4 s).lfsr17 = s.lfsr17 := rfl
@[simp] theorem stepLfsr4_step (s : State) : (stepLfsr4 s).step = s.step := rfl
@[simp] theorem stepLfsr4_acc (s : State) : (stepLfsr4 s).acc = s.acc := rfl
@[simp] theorem stepLfsr4_sample (s : State) : (stepLfsr4 s).sample = s.sample := rfl
@[simp] theorem stepLfsr4_debt (s : State) : (stepLfsr4 s).debt = s.debt := rfl
@[simp] theorem stepLfsr4_lastSampled (s : State) : (stepLfsr4 s).lastSampled = s.lastSampled := rfl
@[simp] theorem stepLfsr4_driving (s : State) : (stepLfsr4 s).driving = s.driving := rfl
@[simp] theorem stepLfsr4_faulted (s : State) : (stepLfsr4 s).faulted = s.faulted := rfl
@[simp] theorem stepLfsr4_refused (s : State) : (stepLfsr4 s).refused = s.refused := rfl
@[simp] theorem stepLfsr4_events (s : State) : (stepLfsr4 s).events = s.events := rfl
@[simp] theorem stepLfsr4_rom (s : State) : (stepLfsr4 s).rom = s.rom := rfl
@[simp] theorem stepLfsr4_cfg (s : State) : (stepLfsr4 s).cfg = s.cfg := rfl
@[simp] theorem stepLfsr4_result (s : State) : (stepLfsr4 s).result = s.result := rfl
@[simp] theorem stepLfsr4_inputs (s : State) : (stepLfsr4 s).inputs = s.inputs := rfl
@[simp] theorem stepLfsr4_fresh (s : State) : (stepLfsr4 s).fresh = s.fresh := rfl

@[simp] theorem stepLfsr5_regs (s : State) : (stepLfsr5 s).regs = s.regs := rfl
@[simp] theorem stepLfsr5_ch (s : State) : (stepLfsr5 s).ch = s.ch := rfl
@[simp] theorem stepLfsr5_lfsr4 (s : State) : (stepLfsr5 s).lfsr4 = s.lfsr4 := rfl
@[simp] theorem stepLfsr5_lfsr9 (s : State) : (stepLfsr5 s).lfsr9 = s.lfsr9 := rfl
@[simp] theorem stepLfsr5_lfsr17 (s : State) : (stepLfsr5 s).lfsr17 = s.lfsr17 := rfl
@[simp] theorem stepLfsr5_step (s : State) : (stepLfsr5 s).step = s.step := rfl
@[simp] theorem stepLfsr5_acc (s : State) : (stepLfsr5 s).acc = s.acc := rfl
@[simp] theorem stepLfsr5_sample (s : State) : (stepLfsr5 s).sample = s.sample := rfl
@[simp] theorem stepLfsr5_debt (s : State) : (stepLfsr5 s).debt = s.debt := rfl
@[simp] theorem stepLfsr5_lastSampled (s : State) : (stepLfsr5 s).lastSampled = s.lastSampled := rfl
@[simp] theorem stepLfsr5_driving (s : State) : (stepLfsr5 s).driving = s.driving := rfl
@[simp] theorem stepLfsr5_faulted (s : State) : (stepLfsr5 s).faulted = s.faulted := rfl
@[simp] theorem stepLfsr5_refused (s : State) : (stepLfsr5 s).refused = s.refused := rfl
@[simp] theorem stepLfsr5_events (s : State) : (stepLfsr5 s).events = s.events := rfl
@[simp] theorem stepLfsr5_rom (s : State) : (stepLfsr5 s).rom = s.rom := rfl
@[simp] theorem stepLfsr5_cfg (s : State) : (stepLfsr5 s).cfg = s.cfg := rfl
@[simp] theorem stepLfsr5_result (s : State) : (stepLfsr5 s).result = s.result := rfl
@[simp] theorem stepLfsr5_inputs (s : State) : (stepLfsr5 s).inputs = s.inputs := rfl
@[simp] theorem stepLfsr5_fresh (s : State) : (stepLfsr5 s).fresh = s.fresh := rfl

@[simp] theorem stepLfsr9_regs (s : State) : (stepLfsr9 s).regs = s.regs := rfl
@[simp] theorem stepLfsr9_ch (s : State) : (stepLfsr9 s).ch = s.ch := rfl
@[simp] theorem stepLfsr9_lfsr4 (s : State) : (stepLfsr9 s).lfsr4 = s.lfsr4 := rfl
@[simp] theorem stepLfsr9_lfsr5 (s : State) : (stepLfsr9 s).lfsr5 = s.lfsr5 := rfl
@[simp] theorem stepLfsr9_lfsr17 (s : State) : (stepLfsr9 s).lfsr17 = s.lfsr17 := rfl
@[simp] theorem stepLfsr9_step (s : State) : (stepLfsr9 s).step = s.step := rfl
@[simp] theorem stepLfsr9_acc (s : State) : (stepLfsr9 s).acc = s.acc := rfl
@[simp] theorem stepLfsr9_sample (s : State) : (stepLfsr9 s).sample = s.sample := rfl
@[simp] theorem stepLfsr9_debt (s : State) : (stepLfsr9 s).debt = s.debt := rfl
@[simp] theorem stepLfsr9_lastSampled (s : State) : (stepLfsr9 s).lastSampled = s.lastSampled := rfl
@[simp] theorem stepLfsr9_driving (s : State) : (stepLfsr9 s).driving = s.driving := rfl
@[simp] theorem stepLfsr9_faulted (s : State) : (stepLfsr9 s).faulted = s.faulted := rfl
@[simp] theorem stepLfsr9_refused (s : State) : (stepLfsr9 s).refused = s.refused := rfl
@[simp] theorem stepLfsr9_events (s : State) : (stepLfsr9 s).events = s.events := rfl
@[simp] theorem stepLfsr9_rom (s : State) : (stepLfsr9 s).rom = s.rom := rfl
@[simp] theorem stepLfsr9_cfg (s : State) : (stepLfsr9 s).cfg = s.cfg := rfl
@[simp] theorem stepLfsr9_result (s : State) : (stepLfsr9 s).result = s.result := rfl
@[simp] theorem stepLfsr9_inputs (s : State) : (stepLfsr9 s).inputs = s.inputs := rfl
@[simp] theorem stepLfsr9_fresh (s : State) : (stepLfsr9 s).fresh = s.fresh := rfl

@[simp] theorem stepLfsr17_regs (s : State) : (stepLfsr17 s).regs = s.regs := rfl
@[simp] theorem stepLfsr17_ch (s : State) : (stepLfsr17 s).ch = s.ch := rfl
@[simp] theorem stepLfsr17_lfsr4 (s : State) : (stepLfsr17 s).lfsr4 = s.lfsr4 := rfl
@[simp] theorem stepLfsr17_lfsr5 (s : State) : (stepLfsr17 s).lfsr5 = s.lfsr5 := rfl
@[simp] theorem stepLfsr17_lfsr9 (s : State) : (stepLfsr17 s).lfsr9 = s.lfsr9 := rfl
@[simp] theorem stepLfsr17_step (s : State) : (stepLfsr17 s).step = s.step := rfl
@[simp] theorem stepLfsr17_acc (s : State) : (stepLfsr17 s).acc = s.acc := rfl
@[simp] theorem stepLfsr17_sample (s : State) : (stepLfsr17 s).sample = s.sample := rfl
@[simp] theorem stepLfsr17_debt (s : State) : (stepLfsr17 s).debt = s.debt := rfl
@[simp] theorem stepLfsr17_lastSampled (s : State) : (stepLfsr17 s).lastSampled = s.lastSampled := rfl
@[simp] theorem stepLfsr17_driving (s : State) : (stepLfsr17 s).driving = s.driving := rfl
@[simp] theorem stepLfsr17_faulted (s : State) : (stepLfsr17 s).faulted = s.faulted := rfl
@[simp] theorem stepLfsr17_refused (s : State) : (stepLfsr17 s).refused = s.refused := rfl
@[simp] theorem stepLfsr17_events (s : State) : (stepLfsr17 s).events = s.events := rfl
@[simp] theorem stepLfsr17_rom (s : State) : (stepLfsr17 s).rom = s.rom := rfl
@[simp] theorem stepLfsr17_cfg (s : State) : (stepLfsr17 s).cfg = s.cfg := rfl
@[simp] theorem stepLfsr17_result (s : State) : (stepLfsr17 s).result = s.result := rfl
@[simp] theorem stepLfsr17_inputs (s : State) : (stepLfsr17 s).inputs = s.inputs := rfl
@[simp] theorem stepLfsr17_fresh (s : State) : (stepLfsr17 s).fresh = s.fresh := rfl

@[simp] theorem timerStep_regs (c : Chan) (s : State) : (timerStep c s).regs = s.regs := rfl
@[simp] theorem timerStep_lfsr4 (c : Chan) (s : State) : (timerStep c s).lfsr4 = s.lfsr4 := rfl
@[simp] theorem timerStep_lfsr5 (c : Chan) (s : State) : (timerStep c s).lfsr5 = s.lfsr5 := rfl
@[simp] theorem timerStep_lfsr9 (c : Chan) (s : State) : (timerStep c s).lfsr9 = s.lfsr9 := rfl
@[simp] theorem timerStep_lfsr17 (c : Chan) (s : State) : (timerStep c s).lfsr17 = s.lfsr17 := rfl
@[simp] theorem timerStep_step (c : Chan) (s : State) : (timerStep c s).step = s.step := rfl
@[simp] theorem timerStep_acc (c : Chan) (s : State) : (timerStep c s).acc = s.acc := rfl
@[simp] theorem timerStep_sample (c : Chan) (s : State) : (timerStep c s).sample = s.sample := rfl
@[simp] theorem timerStep_debt (c : Chan) (s : State) : (timerStep c s).debt = s.debt := rfl
@[simp] theorem timerStep_lastSampled (c : Chan) (s : State) : (timerStep c s).lastSampled = s.lastSampled := rfl
@[simp] theorem timerStep_driving (c : Chan) (s : State) : (timerStep c s).driving = s.driving := rfl
@[simp] theorem timerStep_faulted (c : Chan) (s : State) : (timerStep c s).faulted = s.faulted := rfl
@[simp] theorem timerStep_refused (c : Chan) (s : State) : (timerStep c s).refused = s.refused := rfl
@[simp] theorem timerStep_events (c : Chan) (s : State) : (timerStep c s).events = s.events := rfl
@[simp] theorem timerStep_rom (c : Chan) (s : State) : (timerStep c s).rom = s.rom := rfl
@[simp] theorem timerStep_cfg (c : Chan) (s : State) : (timerStep c s).cfg = s.cfg := rfl
@[simp] theorem timerStep_result (c : Chan) (s : State) : (timerStep c s).result = s.result := rfl
@[simp] theorem timerStep_inputs (c : Chan) (s : State) : (timerStep c s).inputs = s.inputs := rfl
@[simp] theorem timerStep_fresh (c : Chan) (s : State) : (timerStep c s).fresh = s.fresh := rfl

@[simp] theorem stimerReload_regs (s : State) : (stimerReload s).regs = s.regs := rfl
@[simp] theorem stimerReload_lfsr4 (s : State) : (stimerReload s).lfsr4 = s.lfsr4 := rfl
@[simp] theorem stimerReload_lfsr5 (s : State) : (stimerReload s).lfsr5 = s.lfsr5 := rfl
@[simp] theorem stimerReload_lfsr9 (s : State) : (stimerReload s).lfsr9 = s.lfsr9 := rfl
@[simp] theorem stimerReload_lfsr17 (s : State) : (stimerReload s).lfsr17 = s.lfsr17 := rfl
@[simp] theorem stimerReload_step (s : State) : (stimerReload s).step = s.step := rfl
@[simp] theorem stimerReload_acc (s : State) : (stimerReload s).acc = s.acc := rfl
@[simp] theorem stimerReload_sample (s : State) : (stimerReload s).sample = s.sample := rfl
@[simp] theorem stimerReload_debt (s : State) : (stimerReload s).debt = s.debt := rfl
@[simp] theorem stimerReload_lastSampled (s : State) : (stimerReload s).lastSampled = s.lastSampled := rfl
@[simp] theorem stimerReload_driving (s : State) : (stimerReload s).driving = s.driving := rfl
@[simp] theorem stimerReload_faulted (s : State) : (stimerReload s).faulted = s.faulted := rfl
@[simp] theorem stimerReload_refused (s : State) : (stimerReload s).refused = s.refused := rfl
@[simp] theorem stimerReload_events (s : State) : (stimerReload s).events = s.events := rfl
@[simp] theorem stimerReload_rom (s : State) : (stimerReload s).rom = s.rom := rfl
@[simp] theorem stimerReload_cfg (s : State) : (stimerReload s).cfg = s.cfg := rfl
@[simp] theorem stimerReload_result (s : State) : (stimerReload s).result = s.result := rfl
@[simp] theorem stimerReload_inputs (s : State) : (stimerReload s).inputs = s.inputs := rfl
@[simp] theorem stimerReload_fresh (s : State) : (stimerReload s).fresh = s.fresh := rfl

@[simp] theorem blockReset_faulted (c0 : Nat) (s : State) : (blockReset c0 s).faulted = s.faulted := rfl
@[simp] theorem blockReset_refused (c0 : Nat) (s : State) : (blockReset c0 s).refused = s.refused := rfl
@[simp] theorem blockReset_events (c0 : Nat) (s : State) : (blockReset c0 s).events = s.events := rfl
@[simp] theorem blockReset_rom (c0 : Nat) (s : State) : (blockReset c0 s).rom = s.rom := rfl
@[simp] theorem blockReset_cfg (c0 : Nat) (s : State) : (blockReset c0 s).cfg = s.cfg := rfl
@[simp] theorem blockReset_result (c0 : Nat) (s : State) : (blockReset c0 s).result = s.result := rfl
@[simp] theorem blockReset_inputs (c0 : Nat) (s : State) : (blockReset c0 s).inputs = s.inputs := rfl
@[simp] theorem blockReset_fresh (c0 : Nat) (s : State) : (blockReset c0 s).fresh = s.fresh := rfl

@[simp] theorem creditPeriods_regs (n : Nat) (s : State) : (creditPeriods n s).regs = s.regs := rfl
@[simp] theorem creditPeriods_ch (n : Nat) (s : State) : (creditPeriods n s).ch = s.ch := rfl
@[simp] theorem creditPeriods_lfsr4 (n : Nat) (s : State) : (creditPeriods n s).lfsr4 = s.lfsr4 := rfl
@[simp] theorem creditPeriods_lfsr5 (n : Nat) (s : State) : (creditPeriods n s).lfsr5 = s.lfsr5 := rfl
@[simp] theorem creditPeriods_lfsr9 (n : Nat) (s : State) : (creditPeriods n s).lfsr9 = s.lfsr9 := rfl
@[simp] theorem creditPeriods_lfsr17 (n : Nat) (s : State) : (creditPeriods n s).lfsr17 = s.lfsr17 := rfl
@[simp] theorem creditPeriods_step (n : Nat) (s : State) : (creditPeriods n s).step = s.step := rfl
@[simp] theorem creditPeriods_acc (n : Nat) (s : State) : (creditPeriods n s).acc = s.acc := rfl
@[simp] theorem creditPeriods_sample (n : Nat) (s : State) : (creditPeriods n s).sample = s.sample := rfl
@[simp] theorem creditPeriods_driving (n : Nat) (s : State) : (creditPeriods n s).driving = s.driving := rfl
@[simp] theorem creditPeriods_faulted (n : Nat) (s : State) : (creditPeriods n s).faulted = s.faulted := rfl
@[simp] theorem creditPeriods_refused (n : Nat) (s : State) : (creditPeriods n s).refused = s.refused := rfl
@[simp] theorem creditPeriods_events (n : Nat) (s : State) : (creditPeriods n s).events = s.events := rfl
@[simp] theorem creditPeriods_rom (n : Nat) (s : State) : (creditPeriods n s).rom = s.rom := rfl
@[simp] theorem creditPeriods_cfg (n : Nat) (s : State) : (creditPeriods n s).cfg = s.cfg := rfl
@[simp] theorem creditPeriods_result (n : Nat) (s : State) : (creditPeriods n s).result = s.result := rfl
@[simp] theorem creditPeriods_inputs (n : Nat) (s : State) : (creditPeriods n s).inputs = s.inputs := rfl
@[simp] theorem creditPeriods_fresh (n : Nat) (s : State) : (creditPeriods n s).fresh = s.fresh := rfl

@[simp] theorem tickZero_regs (s : State) : (tickZero s).regs = s.regs := rfl
@[simp] theorem tickZero_ch (s : State) : (tickZero s).ch = s.ch := rfl
@[simp] theorem tickZero_sample (s : State) : (tickZero s).sample = s.sample := rfl
@[simp] theorem tickZero_debt (s : State) : (tickZero s).debt = s.debt := rfl
@[simp] theorem tickZero_lastSampled (s : State) : (tickZero s).lastSampled = s.lastSampled := rfl
@[simp] theorem tickZero_driving (s : State) : (tickZero s).driving = s.driving := rfl
@[simp] theorem tickZero_faulted (s : State) : (tickZero s).faulted = s.faulted := rfl
@[simp] theorem tickZero_refused (s : State) : (tickZero s).refused = s.refused := rfl
@[simp] theorem tickZero_events (s : State) : (tickZero s).events = s.events := rfl
@[simp] theorem tickZero_rom (s : State) : (tickZero s).rom = s.rom := rfl
@[simp] theorem tickZero_cfg (s : State) : (tickZero s).cfg = s.cfg := rfl
@[simp] theorem tickZero_result (s : State) : (tickZero s).result = s.result := rfl
@[simp] theorem tickZero_inputs (s : State) : (tickZero s).inputs = s.inputs := rfl
@[simp] theorem tickZero_fresh (s : State) : (tickZero s).fresh = s.fresh := rfl

@[simp] theorem tickTimer_regs (c : Chan) (s : State) : (tickTimer c s).regs = s.regs := rfl
@[simp] theorem tickTimer_lfsr4 (c : Chan) (s : State) : (tickTimer c s).lfsr4 = s.lfsr4 := rfl
@[simp] theorem tickTimer_lfsr5 (c : Chan) (s : State) : (tickTimer c s).lfsr5 = s.lfsr5 := rfl
@[simp] theorem tickTimer_lfsr9 (c : Chan) (s : State) : (tickTimer c s).lfsr9 = s.lfsr9 := rfl
@[simp] theorem tickTimer_lfsr17 (c : Chan) (s : State) : (tickTimer c s).lfsr17 = s.lfsr17 := rfl
@[simp] theorem tickTimer_acc (c : Chan) (s : State) : (tickTimer c s).acc = s.acc := rfl
@[simp] theorem tickTimer_sample (c : Chan) (s : State) : (tickTimer c s).sample = s.sample := rfl
@[simp] theorem tickTimer_debt (c : Chan) (s : State) : (tickTimer c s).debt = s.debt := rfl
@[simp] theorem tickTimer_lastSampled (c : Chan) (s : State) : (tickTimer c s).lastSampled = s.lastSampled := rfl
@[simp] theorem tickTimer_driving (c : Chan) (s : State) : (tickTimer c s).driving = s.driving := rfl
@[simp] theorem tickTimer_faulted (c : Chan) (s : State) : (tickTimer c s).faulted = s.faulted := rfl
@[simp] theorem tickTimer_refused (c : Chan) (s : State) : (tickTimer c s).refused = s.refused := rfl
@[simp] theorem tickTimer_events (c : Chan) (s : State) : (tickTimer c s).events = s.events := rfl
@[simp] theorem tickTimer_rom (c : Chan) (s : State) : (tickTimer c s).rom = s.rom := rfl
@[simp] theorem tickTimer_cfg (c : Chan) (s : State) : (tickTimer c s).cfg = s.cfg := rfl
@[simp] theorem tickTimer_result (c : Chan) (s : State) : (tickTimer c s).result = s.result := rfl
@[simp] theorem tickTimer_inputs (c : Chan) (s : State) : (tickTimer c s).inputs = s.inputs := rfl
@[simp] theorem tickTimer_fresh (c : Chan) (s : State) : (tickTimer c s).fresh = s.fresh := rfl

@[simp] theorem drive_regs (a : Addr) (s : State) : (drive a s).regs = s.regs := rfl
@[simp] theorem drive_ch (a : Addr) (s : State) : (drive a s).ch = s.ch := rfl
@[simp] theorem drive_lfsr4 (a : Addr) (s : State) : (drive a s).lfsr4 = s.lfsr4 := rfl
@[simp] theorem drive_lfsr5 (a : Addr) (s : State) : (drive a s).lfsr5 = s.lfsr5 := rfl
@[simp] theorem drive_lfsr9 (a : Addr) (s : State) : (drive a s).lfsr9 = s.lfsr9 := rfl
@[simp] theorem drive_lfsr17 (a : Addr) (s : State) : (drive a s).lfsr17 = s.lfsr17 := rfl
@[simp] theorem drive_step (a : Addr) (s : State) : (drive a s).step = s.step := rfl
@[simp] theorem drive_acc (a : Addr) (s : State) : (drive a s).acc = s.acc := rfl
@[simp] theorem drive_sample (a : Addr) (s : State) : (drive a s).sample = s.sample := rfl
@[simp] theorem drive_debt (a : Addr) (s : State) : (drive a s).debt = s.debt := rfl
@[simp] theorem drive_lastSampled (a : Addr) (s : State) : (drive a s).lastSampled = s.lastSampled := rfl
@[simp] theorem drive_faulted (a : Addr) (s : State) : (drive a s).faulted = s.faulted := rfl
@[simp] theorem drive_refused (a : Addr) (s : State) : (drive a s).refused = s.refused := rfl
@[simp] theorem drive_rom (a : Addr) (s : State) : (drive a s).rom = s.rom := rfl
@[simp] theorem drive_cfg (a : Addr) (s : State) : (drive a s).cfg = s.cfg := rfl
@[simp] theorem drive_result (a : Addr) (s : State) : (drive a s).result = s.result := rfl
@[simp] theorem drive_inputs (a : Addr) (s : State) : (drive a s).inputs = s.inputs := rfl
@[simp] theorem drive_fresh (a : Addr) (s : State) : (drive a s).fresh = s.fresh := rfl

@[simp] theorem tickZero_step (s : State) : (tickZero s).step = 1 := rfl
@[simp] theorem tickZero_acc (s : State) : (tickZero s).acc = 0 := rfl
@[simp] theorem tickTimer_step (c : Chan) (s : State) : (tickTimer c s).step = BitVec.ofNat 4 (c.val + 2) := rfl
@[simp] theorem tickTimer_ch (c : Chan) (s : State) : (tickTimer c s).ch = (timerStep c s).ch := rfl
@[simp] theorem drive_driving (a : Addr) (s : State) : (drive a s).driving = true := rfl
@[simp] theorem drive_events (a : Addr) (s : State) : (drive a s).events = s.events ++ [.driveData (romByte s a)] := rfl
@[simp] theorem creditPeriods_debt (n : Nat) (s : State) :
    (creditPeriods n s).debt = min s.cfg.debtMax (s.debt + n * s.cfg.schedUnit) := rfl
@[simp] theorem creditPeriods_lastSampled (n : Nat) (s : State) :
    (creditPeriods n s).lastSampled = (s.lastSampled + n * s.cfg.schedPeriod) % 2 ^ s.cfg.cycleBits := rfl

@[simp] theorem State.returning_returning (s : State) (r r' : Result) :
    (s.returning r).returning r' = s.returning r' := rfl

/-- What the block can drive depends on the image and the parameters alone. -/
theorem romByte_congr {s t : State} (hr : t.rom = s.rom) (hc : t.cfg = s.cfg) (a : Addr) : romByte t a = romByte s a := by
  simp [romByte, hr, hc]

end Sys2Proof.Machine
end

