-- ==== Sys2Proof/Laws/Frames.lean ====
section
/-!
SUPPORT. What the shared operations with a case split leave unchanged, field by field, and the case lemma of each: everything
the operation can do, said once.
-/
namespace Sys2Proof.Machine

@[simp] theorem mixStep_regs (c : Chan) (s : State) : (mixStep c s).regs = s.regs := by
  unfold mixStep addToAcc; split
  · split <;> rfl
  · rfl
@[simp] theorem mixStep_ch (c : Chan) (s : State) : (mixStep c s).ch = s.ch := by
  unfold mixStep addToAcc; split
  · split <;> rfl
  · rfl
@[simp] theorem mixStep_lfsr4 (c : Chan) (s : State) : (mixStep c s).lfsr4 = s.lfsr4 := by
  unfold mixStep addToAcc; split
  · split <;> rfl
  · rfl
@[simp] theorem mixStep_lfsr5 (c : Chan) (s : State) : (mixStep c s).lfsr5 = s.lfsr5 := by
  unfold mixStep addToAcc; split
  · split <;> rfl
  · rfl
@[simp] theorem mixStep_lfsr9 (c : Chan) (s : State) : (mixStep c s).lfsr9 = s.lfsr9 := by
  unfold mixStep addToAcc; split
  · split <;> rfl
  · rfl
@[simp] theorem mixStep_lfsr17 (c : Chan) (s : State) : (mixStep c s).lfsr17 = s.lfsr17 := by
  unfold mixStep addToAcc; split
  · split <;> rfl
  · rfl
@[simp] theorem mixStep_step (c : Chan) (s : State) : (mixStep c s).step = s.step := by
  unfold mixStep addToAcc; split
  · split <;> rfl
  · rfl
@[simp] theorem mixStep_sample (c : Chan) (s : State) : (mixStep c s).sample = s.sample := by
  unfold mixStep addToAcc; split
  · split <;> rfl
  · rfl
@[simp] theorem mixStep_debt (c : Chan) (s : State) : (mixStep c s).debt = s.debt := by
  unfold mixStep addToAcc; split
  · split <;> rfl
  · rfl
@[simp] theorem mixStep_lastSampled (c : Chan) (s : State) : (mixStep c s).lastSampled = s.lastSampled := by
  unfold mixStep addToAcc; split
  · split <;> rfl
  · rfl
@[simp] theorem mixStep_driving (c : Chan) (s : State) : (mixStep c s).driving = s.driving := by
  unfold mixStep addToAcc; split
  · split <;> rfl
  · rfl
@[simp] theorem mixStep_faulted (c : Chan) (s : State) : (mixStep c s).faulted = s.faulted := by
  unfold mixStep addToAcc; split
  · split <;> rfl
  · rfl
@[simp] theorem mixStep_refused (c : Chan) (s : State) : (mixStep c s).refused = s.refused := by
  unfold mixStep addToAcc; split
  · split <;> rfl
  · rfl
@[simp] theorem mixStep_events (c : Chan) (s : State) : (mixStep c s).events = s.events := by
  unfold mixStep addToAcc; split
  · split <;> rfl
  · rfl
@[simp] theorem mixStep_rom (c : Chan) (s : State) : (mixStep c s).rom = s.rom := by
  unfold mixStep addToAcc; split
  · split <;> rfl
  · rfl
@[simp] theorem mixStep_cfg (c : Chan) (s : State) : (mixStep c s).cfg = s.cfg := by
  unfold mixStep addToAcc; split
  · split <;> rfl
  · rfl
@[simp] theorem mixStep_result (c : Chan) (s : State) : (mixStep c s).result = s.result := by
  unfold mixStep addToAcc; split
  · split <;> rfl
  · rfl
@[simp] theorem mixStep_inputs (c : Chan) (s : State) : (mixStep c s).inputs = s.inputs := by
  unfold mixStep addToAcc; split
  · split <;> rfl
  · rfl

@[simp] theorem finalize_regs (s : State) : (finalize s).regs = s.regs := by
  unfold finalize; split <;> rfl
@[simp] theorem finalize_ch (s : State) : (finalize s).ch = s.ch := by
  unfold finalize; split <;> rfl
@[simp] theorem finalize_lfsr4 (s : State) : (finalize s).lfsr4 = s.lfsr4 := by
  unfold finalize; split <;> rfl
@[simp] theorem finalize_lfsr5 (s : State) : (finalize s).lfsr5 = s.lfsr5 := by
  unfold finalize; split <;> rfl
@[simp] theorem finalize_lfsr9 (s : State) : (finalize s).lfsr9 = s.lfsr9 := by
  unfold finalize; split <;> rfl
@[simp] theorem finalize_lfsr17 (s : State) : (finalize s).lfsr17 = s.lfsr17 := by
  unfold finalize; split <;> rfl
@[simp] theorem finalize_step (s : State) : (finalize s).step = s.step := by
  unfold finalize; split <;> rfl
@[simp] theorem finalize_acc (s : State) : (finalize s).acc = s.acc := by
  unfold finalize; split <;> rfl
@[simp] theorem finalize_debt (s : State) : (finalize s).debt = s.debt := by
  unfold finalize; split <;> rfl
@[simp] theorem finalize_lastSampled (s : State) : (finalize s).lastSampled = s.lastSampled := by
  unfold finalize; split <;> rfl
@[simp] theorem finalize_driving (s : State) : (finalize s).driving = s.driving := by
  unfold finalize; split <;> rfl
@[simp] theorem finalize_faulted (s : State) : (finalize s).faulted = s.faulted := by
  unfold finalize; split <;> rfl
@[simp] theorem finalize_refused (s : State) : (finalize s).refused = s.refused := by
  unfold finalize; split <;> rfl
@[simp] theorem finalize_events (s : State) : (finalize s).events = s.events := by
  unfold finalize; split <;> rfl
@[simp] theorem finalize_rom (s : State) : (finalize s).rom = s.rom := by
  unfold finalize; split <;> rfl
@[simp] theorem finalize_cfg (s : State) : (finalize s).cfg = s.cfg := by
  unfold finalize; split <;> rfl
@[simp] theorem finalize_result (s : State) : (finalize s).result = s.result := by
  unfold finalize; split <;> rfl
@[simp] theorem finalize_inputs (s : State) : (finalize s).inputs = s.inputs := by
  unfold finalize; split <;> rfl

@[simp] theorem tickMix_regs (c : Chan) (s : State) : (tickMix c s).regs = s.regs := by
  simp [tickMix]
@[simp] theorem tickMix_ch (c : Chan) (s : State) : (tickMix c s).ch = s.ch := by
  simp [tickMix]
@[simp] theorem tickMix_lfsr4 (c : Chan) (s : State) : (tickMix c s).lfsr4 = s.lfsr4 := by
  simp [tickMix]
@[simp] theorem tickMix_lfsr5 (c : Chan) (s : State) : (tickMix c s).lfsr5 = s.lfsr5 := by
  simp [tickMix]
@[simp] theorem tickMix_lfsr9 (c : Chan) (s : State) : (tickMix c s).lfsr9 = s.lfsr9 := by
  simp [tickMix]
@[simp] theorem tickMix_lfsr17 (c : Chan) (s : State) : (tickMix c s).lfsr17 = s.lfsr17 := by
  simp [tickMix]
@[simp] theorem tickMix_sample (c : Chan) (s : State) : (tickMix c s).sample = s.sample := by
  simp [tickMix]
@[simp] theorem tickMix_debt (c : Chan) (s : State) : (tickMix c s).debt = s.debt := by
  simp [tickMix]
@[simp] theorem tickMix_lastSampled (c : Chan) (s : State) : (tickMix c s).lastSampled = s.lastSampled := by
  simp [tickMix]
@[simp] theorem tickMix_driving (c : Chan) (s : State) : (tickMix c s).driving = s.driving := by
  simp [tickMix]
@[simp] theorem tickMix_faulted (c : Chan) (s : State) : (tickMix c s).faulted = s.faulted := by
  simp [tickMix]
@[simp] theorem tickMix_refused (c : Chan) (s : State) : (tickMix c s).refused = s.refused := by
  simp [tickMix]
@[simp] theorem tickMix_events (c : Chan) (s : State) : (tickMix c s).events = s.events := by
  simp [tickMix]
@[simp] theorem tickMix_rom (c : Chan) (s : State) : (tickMix c s).rom = s.rom := by
  simp [tickMix]
@[simp] theorem tickMix_cfg (c : Chan) (s : State) : (tickMix c s).cfg = s.cfg := by
  simp [tickMix]
@[simp] theorem tickMix_result (c : Chan) (s : State) : (tickMix c s).result = s.result := by
  simp [tickMix]
@[simp] theorem tickMix_inputs (c : Chan) (s : State) : (tickMix c s).inputs = s.inputs := by
  simp [tickMix]

@[simp] theorem tickFinal_regs (s : State) : (tickFinal s).regs = s.regs := by
  simp [tickFinal]
@[simp] theorem tickFinal_ch (s : State) : (tickFinal s).ch = s.ch := by
  simp [tickFinal]
@[simp] theorem tickFinal_lfsr4 (s : State) : (tickFinal s).lfsr4 = s.lfsr4 := by
  simp [tickFinal]
@[simp] theorem tickFinal_lfsr5 (s : State) : (tickFinal s).lfsr5 = s.lfsr5 := by
  simp [tickFinal]
@[simp] theorem tickFinal_lfsr9 (s : State) : (tickFinal s).lfsr9 = s.lfsr9 := by
  simp [tickFinal]
@[simp] theorem tickFinal_lfsr17 (s : State) : (tickFinal s).lfsr17 = s.lfsr17 := by
  simp [tickFinal]
@[simp] theorem tickFinal_debt (s : State) : (tickFinal s).debt = s.debt := by
  simp [tickFinal]
@[simp] theorem tickFinal_lastSampled (s : State) : (tickFinal s).lastSampled = s.lastSampled := by
  simp [tickFinal]
@[simp] theorem tickFinal_driving (s : State) : (tickFinal s).driving = s.driving := by
  simp [tickFinal]
@[simp] theorem tickFinal_faulted (s : State) : (tickFinal s).faulted = s.faulted := by
  simp [tickFinal]
@[simp] theorem tickFinal_refused (s : State) : (tickFinal s).refused = s.refused := by
  simp [tickFinal]
@[simp] theorem tickFinal_events (s : State) : (tickFinal s).events = s.events := by
  simp [tickFinal]
@[simp] theorem tickFinal_rom (s : State) : (tickFinal s).rom = s.rom := by
  simp [tickFinal]
@[simp] theorem tickFinal_cfg (s : State) : (tickFinal s).cfg = s.cfg := by
  simp [tickFinal]
@[simp] theorem tickFinal_result (s : State) : (tickFinal s).result = s.result := by
  simp [tickFinal]
@[simp] theorem tickFinal_inputs (s : State) : (tickFinal s).inputs = s.inputs := by
  simp [tickFinal]

@[simp] theorem tickMix_step (c : Chan) (s : State) : (tickMix c s).step = BitVec.ofNat 4 (c.val + 6) := rfl
@[simp] theorem tickMix_acc (c : Chan) (s : State) : (tickMix c s).acc = (mixStep c s).acc := rfl
@[simp] theorem tickFinal_step (s : State) : (tickFinal s).step = 0 := rfl
@[simp] theorem tickFinal_acc (s : State) : (tickFinal s).acc = (mixStep 3 s).acc := by simp [tickFinal]

/-- The mix step adds the channel's volume where it contributes and the sum fits a byte. -/
theorem mixStep_acc_toNat (c : Chan) (s : State) (h : s.acc.toNat ≤ 240) :
    (mixStep c s).acc.toNat = s.acc.toNat + if contributes s c then (ctlVol (s.ctl c)).toNat else 0 := by
  have hv := (ctlVol (s.ctl c)).isLt
  unfold mixStep addToAcc
  split
  · rw [if_pos (by omega)]
    simp [BitVec.toNat_add, BitVec.toNat_setWidth]
    omega
  · rfl

/-- The mix step draws no free value where the sum fits a byte. -/
theorem mixStep_fresh (c : Chan) (s : State) (h : s.acc.toNat ≤ 240) : (mixStep c s).fresh = s.fresh := by
  have hv := (ctlVol (s.ctl c)).isLt
  unfold mixStep addToAcc
  split
  · rw [if_pos (by omega)]
  · rfl

/-- A mix step raises the accumulator by at most 15 (R164). -/
theorem mixStep_acc_le (c : Chan) (s : State) (h : s.acc.toNat ≤ 240) :
    (mixStep c s).acc.toNat ≤ s.acc.toNat + 15 := by
  have hv := (ctlVol (s.ctl c)).isLt
  rw [mixStep_acc_toNat c s h]
  split <;> omega

theorem scaleNat_lt {n : Nat} (h : n ≤ 60) : scaleNat n < 256 := by
  unfold scaleNat; omega

/-- Step 8 finalizes the scale of the sum where the sum is in range (R156). -/
theorem finalize_sample (s : State) (h : s.acc.toNat ≤ 60) : (finalize s).sample.toNat = scaleNat s.acc.toNat := by
  have := scaleNat_lt h
  unfold finalize
  rw [if_pos h]
  simp only [BitVec.toNat_ofNat]
  omega

/-- `AdvanceOneStep` performs the micro-step its tick state names (R150). -/
theorem advanceOneStep_cases (s : State) (h : s.step.toNat ≤ 8) :
    (s.step.toNat = 0 ∧ advanceOneStep s = (tickZero s, false)) ∨
    (∃ c : Chan, s.step.toNat = c.val + 1 ∧ advanceOneStep s = (tickTimer c s, false)) ∨
    (∃ c : Chan, c.val ≤ 2 ∧ s.step.toNat = c.val + 5 ∧ advanceOneStep s = (tickMix c s, false)) ∨
    (s.step.toNat = 8 ∧ advanceOneStep s = (tickFinal s, true)) := by
  unfold advanceOneStep
  rcases hn : s.step.toNat with _ | _ | _ | _ | _ | _ | _ | _ | _ | n
  · exact .inl ⟨rfl, rfl⟩
  · exact .inr (.inl ⟨0, rfl, rfl⟩)
  · exact .inr (.inl ⟨1, rfl, rfl⟩)
  · exact .inr (.inl ⟨2, rfl, rfl⟩)
  · exact .inr (.inl ⟨3, rfl, rfl⟩)
  · exact .inr (.inr (.inl ⟨0, by decide, rfl, rfl⟩))
  · exact .inr (.inr (.inl ⟨1, by decide, rfl, rfl⟩))
  · exact .inr (.inr (.inl ⟨2, by decide, rfl, rfl⟩))
  · exact .inr (.inr (.inr ⟨rfl, rfl⟩))
  · omega

@[simp] theorem advanceOneStep_regs (s : State) : (advanceOneStep s).1.regs = s.regs := by
  unfold advanceOneStep; split <;> simp
@[simp] theorem advanceOneStep_debt (s : State) : (advanceOneStep s).1.debt = s.debt := by
  unfold advanceOneStep; split <;> simp
@[simp] theorem advanceOneStep_lastSampled (s : State) : (advanceOneStep s).1.lastSampled = s.lastSampled := by
  unfold advanceOneStep; split <;> simp
@[simp] theorem advanceOneStep_driving (s : State) : (advanceOneStep s).1.driving = s.driving := by
  unfold advanceOneStep; split <;> simp
@[simp] theorem advanceOneStep_faulted (s : State) : (advanceOneStep s).1.faulted = s.faulted := by
  unfold advanceOneStep; split <;> simp
@[simp] theorem advanceOneStep_refused (s : State) : (advanceOneStep s).1.refused = s.refused := by
  unfold advanceOneStep; split <;> simp
@[simp] theorem advanceOneStep_events (s : State) : (advanceOneStep s).1.events = s.events := by
  unfold advanceOneStep; split <;> simp
@[simp] theorem advanceOneStep_rom (s : State) : (advanceOneStep s).1.rom = s.rom := by
  unfold advanceOneStep; split <;> simp
@[simp] theorem advanceOneStep_cfg (s : State) : (advanceOneStep s).1.cfg = s.cfg := by
  unfold advanceOneStep; split <;> simp
@[simp] theorem advanceOneStep_result (s : State) : (advanceOneStep s).1.result = s.result := by
  unfold advanceOneStep; split <;> simp
@[simp] theorem advanceOneStep_inputs (s : State) : (advanceOneStep s).1.inputs = s.inputs := by
  unfold advanceOneStep; split <;> simp

@[simp] theorem noteElapsed_regs (t : Nat) (s : State) : (noteElapsed t s).regs = s.regs := by
  unfold noteElapsed; split
  · rfl
  · split <;> rfl
@[simp] theorem noteElapsed_ch (t : Nat) (s : State) : (noteElapsed t s).ch = s.ch := by
  unfold noteElapsed; split
  · rfl
  · split <;> rfl
@[simp] theorem noteElapsed_lfsr4 (t : Nat) (s : State) : (noteElapsed t s).lfsr4 = s.lfsr4 := by
  unfold noteElapsed; split
  · rfl
  · split <;> rfl
@[simp] theorem noteElapsed_lfsr5 (t : Nat) (s : State) : (noteElapsed t s).lfsr5 = s.lfsr5 := by
  unfold noteElapsed; split
  · rfl
  · split <;> rfl
@[simp] theorem noteElapsed_lfsr9 (t : Nat) (s : State) : (noteElapsed t s).lfsr9 = s.lfsr9 := by
  unfold noteElapsed; split
  · rfl
  · split <;> rfl
@[simp] theorem noteElapsed_lfsr17 (t : Nat) (s : State) : (noteElapsed t s).lfsr17 = s.lfsr17 := by
  unfold noteElapsed; split
  · rfl
  · split <;> rfl
@[simp] theorem noteElapsed_step (t : Nat) (s : State) : (noteElapsed t s).step = s.step := by
  unfold noteElapsed; split
  · rfl
  · split <;> rfl
@[simp] theorem noteElapsed_acc (t : Nat) (s : State) : (noteElapsed t s).acc = s.acc := by
  unfold noteElapsed; split
  · rfl
  · split <;> rfl
@[simp] theorem noteElapsed_sample (t : Nat) (s : State) : (noteElapsed t s).sample = s.sample := by
  unfold noteElapsed; split
  · rfl
  · split <;> rfl
@[simp] theorem noteElapsed_driving (t : Nat) (s : State) : (noteElapsed t s).driving = s.driving := by
  unfold noteElapsed; split
  · rfl
  · split <;> rfl
@[simp] theorem noteElapsed_faulted (t : Nat) (s : State) : (noteElapsed t s).faulted = s.faulted := by
  unfold noteElapsed; split
  · rfl
  · split <;> rfl
@[simp] theorem noteElapsed_refused (t : Nat) (s : State) : (noteElapsed t s).refused = s.refused := by
  unfold noteElapsed; split
  · rfl
  · split <;> rfl
@[simp] theorem noteElapsed_events (t : Nat) (s : State) : (noteElapsed t s).events = s.events := by
  unfold noteElapsed; split
  · rfl
  · split <;> rfl
@[simp] theorem noteElapsed_rom (t : Nat) (s : State) : (noteElapsed t s).rom = s.rom := by
  unfold noteElapsed; split
  · rfl
  · split <;> rfl
@[simp] theorem noteElapsed_cfg (t : Nat) (s : State) : (noteElapsed t s).cfg = s.cfg := by
  unfold noteElapsed; split
  · rfl
  · split <;> rfl
@[simp] theorem noteElapsed_result (t : Nat) (s : State) : (noteElapsed t s).result = s.result := by
  unfold noteElapsed; split
  · rfl
  · split <;> rfl
@[simp] theorem noteElapsed_inputs (t : Nat) (s : State) : (noteElapsed t s).inputs = s.inputs := by
  unfold noteElapsed; split
  · rfl
  · split <;> rfl
@[simp] theorem noteElapsed_fresh (t : Nat) (s : State) : (noteElapsed t s).fresh = s.fresh := by
  unfold noteElapsed; split
  · rfl
  · split <;> rfl

@[simp] theorem account_regs (ps : List AccountPolicy) (t : Nat) (s : State) : (account ps t s).regs = s.regs := by
  unfold account; split <;> simp
@[simp] theorem account_ch (ps : List AccountPolicy) (t : Nat) (s : State) : (account ps t s).ch = s.ch := by
  unfold account; split <;> simp
@[simp] theorem account_lfsr4 (ps : List AccountPolicy) (t : Nat) (s : State) : (account ps t s).lfsr4 = s.lfsr4 := by
  unfold account; split <;> simp
@[simp] theorem account_lfsr5 (ps : List AccountPolicy) (t : Nat) (s : State) : (account ps t s).lfsr5 = s.lfsr5 := by
  unfold account; split <;> simp
@[simp] theorem account_lfsr9 (ps : List AccountPolicy) (t : Nat) (s : State) : (account ps t s).lfsr9 = s.lfsr9 := by
  unfold account; split <;> simp
@[simp] theorem account_lfsr17 (ps : List AccountPolicy) (t : Nat) (s : State) : (account ps t s).lfsr17 = s.lfsr17 := by
  unfold account; split <;> simp
@[simp] theorem account_step (ps : List AccountPolicy) (t : Nat) (s : State) : (account ps t s).step = s.step := by
  unfold account; split <;> simp
@[simp] theorem account_acc (ps : List AccountPolicy) (t : Nat) (s : State) : (account ps t s).acc = s.acc := by
  unfold account; split <;> simp
@[simp] theorem account_sample (ps : List AccountPolicy) (t : Nat) (s : State) : (account ps t s).sample = s.sample := by
  unfold account; split <;> simp
@[simp] theorem account_driving (ps : List AccountPolicy) (t : Nat) (s : State) : (account ps t s).driving = s.driving := by
  unfold account; split <;> simp
@[simp] theorem account_faulted (ps : List AccountPolicy) (t : Nat) (s : State) : (account ps t s).faulted = s.faulted := by
  unfold account; split <;> simp
@[simp] theorem account_refused (ps : List AccountPolicy) (t : Nat) (s : State) : (account ps t s).refused = s.refused := by
  unfold account; split <;> simp
@[simp] theorem account_events (ps : List AccountPolicy) (t : Nat) (s : State) : (account ps t s).events = s.events := by
  unfold account; split <;> simp
@[simp] theorem account_rom (ps : List AccountPolicy) (t : Nat) (s : State) : (account ps t s).rom = s.rom := by
  unfold account; split <;> simp
@[simp] theorem account_cfg (ps : List AccountPolicy) (t : Nat) (s : State) : (account ps t s).cfg = s.cfg := by
  unfold account; split <;> simp
@[simp] theorem account_result (ps : List AccountPolicy) (t : Nat) (s : State) : (account ps t s).result = s.result := by
  unfold account; split <;> simp
@[simp] theorem account_inputs (ps : List AccountPolicy) (t : Nat) (s : State) : (account ps t s).inputs = s.inputs := by
  unfold account; split <;> simp
@[simp] theorem account_fresh (ps : List AccountPolicy) (t : Nat) (s : State) : (account ps t s).fresh = s.fresh := by
  unfold account; split <;> simp

@[simp] theorem consumeOne_regs (s : State) : (consumeOne s).regs = s.regs := by
  unfold consumeOne; split <;> rfl
@[simp] theorem consumeOne_ch (s : State) : (consumeOne s).ch = s.ch := by
  unfold consumeOne; split <;> rfl
@[simp] theorem consumeOne_lfsr4 (s : State) : (consumeOne s).lfsr4 = s.lfsr4 := by
  unfold consumeOne; split <;> rfl
@[simp] theorem consumeOne_lfsr5 (s : State) : (consumeOne s).lfsr5 = s.lfsr5 := by
  unfold consumeOne; split <;> rfl
@[simp] theorem consumeOne_lfsr9 (s : State) : (consumeOne s).lfsr9 = s.lfsr9 := by
  unfold consumeOne; split <;> rfl
@[simp] theorem consumeOne_lfsr17 (s : State) : (consumeOne s).lfsr17 = s.lfsr17 := by
  unfold consumeOne; split <;> rfl
@[simp] theorem consumeOne_step (s : State) : (consumeOne s).step = s.step := by
  unfold consumeOne; split <;> rfl
@[simp] theorem consumeOne_acc (s : State) : (consumeOne s).acc = s.acc := by
  unfold consumeOne; split <;> rfl
@[simp] theorem consumeOne_sample (s : State) : (consumeOne s).sample = s.sample := by
  unfold consumeOne; split <;> rfl
@[simp] theorem consumeOne_lastSampled (s : State) : (consumeOne s).lastSampled = s.lastSampled := by
  unfold consumeOne; split <;> rfl
@[simp] theorem consumeOne_driving (s : State) : (consumeOne s).driving = s.driving := by
  unfold consumeOne; split <;> rfl
@[simp] theorem consumeOne_faulted (s : State) : (consumeOne s).faulted = s.faulted := by
  unfold consumeOne; split <;> rfl
@[simp] theorem consumeOne_refused (s : State) : (consumeOne s).refused = s.refused := by
  unfold consumeOne; split <;> rfl
@[simp] theorem consumeOne_events (s : State) : (consumeOne s).events = s.events := by
  unfold consumeOne; split <;> rfl
@[simp] theorem consumeOne_rom (s : State) : (consumeOne s).rom = s.rom := by
  unfold consumeOne; split <;> rfl
@[simp] theorem consumeOne_cfg (s : State) : (consumeOne s).cfg = s.cfg := by
  unfold consumeOne; split <;> rfl
@[simp] theorem consumeOne_result (s : State) : (consumeOne s).result = s.result := by
  unfold consumeOne; split <;> rfl
@[simp] theorem consumeOne_inputs (s : State) : (consumeOne s).inputs = s.inputs := by
  unfold consumeOne; split <;> rfl
@[simp] theorem consumeOne_fresh (s : State) : (consumeOne s).fresh = s.fresh := by
  unfold consumeOne; split <;> rfl

@[simp] theorem markHostWrite_regs (b : BusSample) (s : State) : (markHostWrite b s).regs = s.regs := by
  unfold markHostWrite; split <;> rfl
@[simp] theorem markHostWrite_ch (b : BusSample) (s : State) : (markHostWrite b s).ch = s.ch := by
  unfold markHostWrite; split <;> rfl
@[simp] theorem markHostWrite_lfsr4 (b : BusSample) (s : State) : (markHostWrite b s).lfsr4 = s.lfsr4 := by
  unfold markHostWrite; split <;> rfl
@[simp] theorem markHostWrite_lfsr5 (b : BusSample) (s : State) : (markHostWrite b s).lfsr5 = s.lfsr5 := by
  unfold markHostWrite; split <;> rfl
@[simp] theorem markHostWrite_lfsr9 (b : BusSample) (s : State) : (markHostWrite b s).lfsr9 = s.lfsr9 := by
  unfold markHostWrite; split <;> rfl
@[simp] theorem markHostWrite_lfsr17 (b : BusSample) (s : State) : (markHostWrite b s).lfsr17 = s.lfsr17 := by
  unfold markHostWrite; split <;> rfl
@[simp] theorem markHostWrite_step (b : BusSample) (s : State) : (markHostWrite b s).step = s.step := by
  unfold markHostWrite; split <;> rfl
@[simp] theorem markHostWrite_acc (b : BusSample) (s : State) : (markHostWrite b s).acc = s.acc := by
  unfold markHostWrite; split <;> rfl
@[simp] theorem markHostWrite_sample (b : BusSample) (s : State) : (markHostWrite b s).sample = s.sample := by
  unfold markHostWrite; split <;> rfl
@[simp] theorem markHostWrite_debt (b : BusSample) (s : State) : (markHostWrite b s).debt = s.debt := by
  unfold markHostWrite; split <;> rfl
@[simp] theorem markHostWrite_lastSampled (b : BusSample) (s : State) : (markHostWrite b s).lastSampled = s.lastSampled := by
  unfold markHostWrite; split <;> rfl
@[simp] theorem markHostWrite_driving (b : BusSample) (s : State) : (markHostWrite b s).driving = s.driving := by
  unfold markHostWrite; split <;> rfl
@[simp] theorem markHostWrite_refused (b : BusSample) (s : State) : (markHostWrite b s).refused = s.refused := by
  unfold markHostWrite; split <;> rfl
@[simp] theorem markHostWrite_events (b : BusSample) (s : State) : (markHostWrite b s).events = s.events := by
  unfold markHostWrite; split <;> rfl
@[simp] theorem markHostWrite_rom (b : BusSample) (s : State) : (markHostWrite b s).rom = s.rom := by
  unfold markHostWrite; split <;> rfl
@[simp] theorem markHostWrite_cfg (b : BusSample) (s : State) : (markHostWrite b s).cfg = s.cfg := by
  unfold markHostWrite; split <;> rfl
@[simp] theorem markHostWrite_result (b : BusSample) (s : State) : (markHostWrite b s).result = s.result := by
  unfold markHostWrite; split <;> rfl
@[simp] theorem markHostWrite_inputs (b : BusSample) (s : State) : (markHostWrite b s).inputs = s.inputs := by
  unfold markHostWrite; split <;> rfl
@[simp] theorem markHostWrite_fresh (b : BusSample) (s : State) : (markHostWrite b s).fresh = s.fresh := by
  unfold markHostWrite; split <;> rfl

@[simp] theorem release_regs (s : State) : (release s).regs = s.regs := by
  unfold release; split <;> rfl
@[simp] theorem release_ch (s : State) : (release s).ch = s.ch := by
  unfold release; split <;> rfl
@[simp] theorem release_lfsr4 (s : State) : (release s).lfsr4 = s.lfsr4 := by
  unfold release; split <;> rfl
@[simp] theorem release_lfsr5 (s : State) : (release s).lfsr5 = s.lfsr5 := by
  unfold release; split <;> rfl
@[simp] theorem release_lfsr9 (s : State) : (release s).lfsr9 = s.lfsr9 := by
  unfold release; split <;> rfl
@[simp] theorem release_lfsr17 (s : State) : (release s).lfsr17 = s.lfsr17 := by
  unfold release; split <;> rfl
@[simp] theorem release_step (s : State) : (release s).step = s.step := by
  unfold release; split <;> rfl
@[simp] theorem release_acc (s : State) : (release s).acc = s.acc := by
  unfold release; split <;> rfl
@[simp] theorem release_sample (s : State) : (release s).sample = s.sample := by
  unfold release; split <;> rfl
@[simp] theorem release_debt (s : State) : (release s).debt = s.debt := by
  unfold release; split <;> rfl
@[simp] theorem release_lastSampled (s : State) : (release s).lastSampled = s.lastSampled := by
  unfold release; split <;> rfl
@[simp] theorem release_faulted (s : State) : (release s).faulted = s.faulted := by
  unfold release; split <;> rfl
@[simp] theorem release_refused (s : State) : (release s).refused = s.refused := by
  unfold release; split <;> rfl
@[simp] theorem release_rom (s : State) : (release s).rom = s.rom := by
  unfold release; split <;> rfl
@[simp] theorem release_cfg (s : State) : (release s).cfg = s.cfg := by
  unfold release; split <;> rfl
@[simp] theorem release_result (s : State) : (release s).result = s.result := by
  unfold release; split <;> rfl
@[simp] theorem release_inputs (s : State) : (release s).inputs = s.inputs := by
  unfold release; split <;> rfl
@[simp] theorem release_fresh (s : State) : (release s).fresh = s.fresh := by
  unfold release; split <;> rfl

@[simp] theorem romPath_regs (b : BusSample) (t : Nat) (s : State) : (romPath b t s).regs = s.regs := by
  simp [romPath]
@[simp] theorem romPath_ch (b : BusSample) (t : Nat) (s : State) : (romPath b t s).ch = s.ch := by
  simp [romPath]
@[simp] theorem romPath_lfsr4 (b : BusSample) (t : Nat) (s : State) : (romPath b t s).lfsr4 = s.lfsr4 := by
  simp [romPath]
@[simp] theorem romPath_lfsr5 (b : BusSample) (t : Nat) (s : State) : (romPath b t s).lfsr5 = s.lfsr5 := by
  simp [romPath]
@[simp] theorem romPath_lfsr9 (b : BusSample) (t : Nat) (s : State) : (romPath b t s).lfsr9 = s.lfsr9 := by
  simp [romPath]
@[simp] theorem romPath_lfsr17 (b : BusSample) (t : Nat) (s : State) : (romPath b t s).lfsr17 = s.lfsr17 := by
  simp [romPath]
@[simp] theorem romPath_step (b : BusSample) (t : Nat) (s : State) : (romPath b t s).step = s.step := by
  simp [romPath]
@[simp] theorem romPath_acc (b : BusSample) (t : Nat) (s : State) : (romPath b t s).acc = s.acc := by
  simp [romPath]
@[simp] theorem romPath_sample (b : BusSample) (t : Nat) (s : State) : (romPath b t s).sample = s.sample := by
  simp [romPath]
@[simp] theorem romPath_refused (b : BusSample) (t : Nat) (s : State) : (romPath b t s).refused = s.refused := by
  simp [romPath]
@[simp] theorem romPath_rom (b : BusSample) (t : Nat) (s : State) : (romPath b t s).rom = s.rom := by
  simp [romPath]
@[simp] theorem romPath_cfg (b : BusSample) (t : Nat) (s : State) : (romPath b t s).cfg = s.cfg := by
  simp [romPath]
@[simp] theorem romPath_result (b : BusSample) (t : Nat) (s : State) : (romPath b t s).result = s.result := by
  simp [romPath]
@[simp] theorem romPath_inputs (b : BusSample) (t : Nat) (s : State) : (romPath b t s).inputs = s.inputs := by
  simp [romPath]
@[simp] theorem romPath_fresh (b : BusSample) (t : Nat) (s : State) : (romPath b t s).fresh = s.fresh := by
  simp [romPath]

@[simp] theorem enterLow_regs (t : Nat) (s : State) : (enterLow t s).regs = s.regs := by
  simp [enterLow]
@[simp] theorem enterLow_ch (t : Nat) (s : State) : (enterLow t s).ch = s.ch := by
  simp [enterLow]
@[simp] theorem enterLow_lfsr4 (t : Nat) (s : State) : (enterLow t s).lfsr4 = s.lfsr4 := by
  simp [enterLow]
@[simp] theorem enterLow_lfsr5 (t : Nat) (s : State) : (enterLow t s).lfsr5 = s.lfsr5 := by
  simp [enterLow]
@[simp] theorem enterLow_lfsr9 (t : Nat) (s : State) : (enterLow t s).lfsr9 = s.lfsr9 := by
  simp [enterLow]
@[simp] theorem enterLow_lfsr17 (t : Nat) (s : State) : (enterLow t s).lfsr17 = s.lfsr17 := by
  simp [enterLow]
@[simp] theorem enterLow_step (t : Nat) (s : State) : (enterLow t s).step = s.step := by
  simp [enterLow]
@[simp] theorem enterLow_acc (t : Nat) (s : State) : (enterLow t s).acc = s.acc := by
  simp [enterLow]
@[simp] theorem enterLow_sample (t : Nat) (s : State) : (enterLow t s).sample = s.sample := by
  simp [enterLow]
@[simp] theorem enterLow_faulted (t : Nat) (s : State) : (enterLow t s).faulted = s.faulted := by
  simp [enterLow]
@[simp] theorem enterLow_refused (t : Nat) (s : State) : (enterLow t s).refused = s.refused := by
  simp [enterLow]
@[simp] theorem enterLow_rom (t : Nat) (s : State) : (enterLow t s).rom = s.rom := by
  simp [enterLow]
@[simp] theorem enterLow_cfg (t : Nat) (s : State) : (enterLow t s).cfg = s.cfg := by
  simp [enterLow]
@[simp] theorem enterLow_result (t : Nat) (s : State) : (enterLow t s).result = s.result := by
  simp [enterLow]
@[simp] theorem enterLow_inputs (t : Nat) (s : State) : (enterLow t s).inputs = s.inputs := by
  simp [enterLow]
@[simp] theorem enterLow_fresh (t : Nat) (s : State) : (enterLow t s).fresh = s.fresh := by
  simp [enterLow]

@[simp] theorem lowAccount_regs (t : Nat) (s : State) : (lowAccount t s).regs = s.regs := by
  simp [lowAccount]
@[simp] theorem lowAccount_ch (t : Nat) (s : State) : (lowAccount t s).ch = s.ch := by
  simp [lowAccount]
@[simp] theorem lowAccount_lfsr4 (t : Nat) (s : State) : (lowAccount t s).lfsr4 = s.lfsr4 := by
  simp [lowAccount]
@[simp] theorem lowAccount_lfsr5 (t : Nat) (s : State) : (lowAccount t s).lfsr5 = s.lfsr5 := by
  simp [lowAccount]
@[simp] theorem lowAccount_lfsr9 (t : Nat) (s : State) : (lowAccount t s).lfsr9 = s.lfsr9 := by
  simp [lowAccount]
@[simp] theorem lowAccount_lfsr17 (t : Nat) (s : State) : (lowAccount t s).lfsr17 = s.lfsr17 := by
  simp [lowAccount]
@[simp] theorem lowAccount_step (t : Nat) (s : State) : (lowAccount t s).step = s.step := by
  simp [lowAccount]
@[simp] theorem lowAccount_acc (t : Nat) (s : State) : (lowAccount t s).acc = s.acc := by
  simp [lowAccount]
@[simp] theorem lowAccount_sample (t : Nat) (s : State) : (lowAccount t s).sample = s.sample := by
  simp [lowAccount]
@[simp] theorem lowAccount_faulted (t : Nat) (s : State) : (lowAccount t s).faulted = s.faulted := by
  simp [lowAccount]
@[simp] theorem lowAccount_refused (t : Nat) (s : State) : (lowAccount t s).refused = s.refused := by
  simp [lowAccount]
@[simp] theorem lowAccount_rom (t : Nat) (s : State) : (lowAccount t s).rom = s.rom := by
  simp [lowAccount]
@[simp] theorem lowAccount_cfg (t : Nat) (s : State) : (lowAccount t s).cfg = s.cfg := by
  simp [lowAccount]
@[simp] theorem lowAccount_result (t : Nat) (s : State) : (lowAccount t s).result = s.result := by
  simp [lowAccount]
@[simp] theorem lowAccount_inputs (t : Nat) (s : State) : (lowAccount t s).inputs = s.inputs := by
  simp [lowAccount]
@[simp] theorem lowAccount_fresh (t : Nat) (s : State) : (lowAccount t s).fresh = s.fresh := by
  simp [lowAccount]

@[simp] theorem writeRegister_lfsr4 (idx : BitVec 4) (v : Byte) (s : State) : (writeRegister idx v s).lfsr4 = s.lfsr4 := by
  unfold writeRegister; repeat (first | rfl | split)
@[simp] theorem writeRegister_lfsr5 (idx : BitVec 4) (v : Byte) (s : State) : (writeRegister idx v s).lfsr5 = s.lfsr5 := by
  unfold writeRegister; repeat (first | rfl | split)
@[simp] theorem writeRegister_lfsr9 (idx : BitVec 4) (v : Byte) (s : State) : (writeRegister idx v s).lfsr9 = s.lfsr9 := by
  unfold writeRegister; repeat (first | rfl | split)
@[simp] theorem writeRegister_lfsr17 (idx : BitVec 4) (v : Byte) (s : State) : (writeRegister idx v s).lfsr17 = s.lfsr17 := by
  unfold writeRegister; repeat (first | rfl | split)
@[simp] theorem writeRegister_step (idx : BitVec 4) (v : Byte) (s : State) : (writeRegister idx v s).step = s.step := by
  unfold writeRegister; repeat (first | rfl | split)
@[simp] theorem writeRegister_acc (idx : BitVec 4) (v : Byte) (s : State) : (writeRegister idx v s).acc = s.acc := by
  unfold writeRegister; repeat (first | rfl | split)
@[simp] theorem writeRegister_sample (idx : BitVec 4) (v : Byte) (s : State) : (writeRegister idx v s).sample = s.sample := by
  unfold writeRegister; repeat (first | rfl | split)
@[simp] theorem writeRegister_debt (idx : BitVec 4) (v : Byte) (s : State) : (writeRegister idx v s).debt = s.debt := by
  unfold writeRegister; repeat (first | rfl | split)
@[simp] theorem writeRegister_lastSampled (idx : BitVec 4) (v : Byte) (s : State) : (writeRegister idx v s).lastSampled = s.lastSampled := by
  unfold writeRegister; repeat (first | rfl | split)
@[simp] theorem writeRegister_driving (idx : BitVec 4) (v : Byte) (s : State) : (writeRegister idx v s).driving = s.driving := by
  unfold writeRegister; repeat (first | rfl | split)
@[simp] theorem writeRegister_faulted (idx : BitVec 4) (v : Byte) (s : State) : (writeRegister idx v s).faulted = s.faulted := by
  unfold writeRegister; repeat (first | rfl | split)
@[simp] theorem writeRegister_refused (idx : BitVec 4) (v : Byte) (s : State) : (writeRegister idx v s).refused = s.refused := by
  unfold writeRegister; repeat (first | rfl | split)
@[simp] theorem writeRegister_events (idx : BitVec 4) (v : Byte) (s : State) : (writeRegister idx v s).events = s.events := by
  unfold writeRegister; repeat (first | rfl | split)
@[simp] theorem writeRegister_rom (idx : BitVec 4) (v : Byte) (s : State) : (writeRegister idx v s).rom = s.rom := by
  unfold writeRegister; repeat (first | rfl | split)
@[simp] theorem writeRegister_cfg (idx : BitVec 4) (v : Byte) (s : State) : (writeRegister idx v s).cfg = s.cfg := by
  unfold writeRegister; repeat (first | rfl | split)
@[simp] theorem writeRegister_result (idx : BitVec 4) (v : Byte) (s : State) : (writeRegister idx v s).result = s.result := by
  unfold writeRegister; repeat (first | rfl | split)
@[simp] theorem writeRegister_inputs (idx : BitVec 4) (v : Byte) (s : State) : (writeRegister idx v s).inputs = s.inputs := by
  unfold writeRegister; repeat (first | rfl | split)
@[simp] theorem writeRegister_fresh (idx : BitVec 4) (v : Byte) (s : State) : (writeRegister idx v s).fresh = s.fresh := by
  unfold writeRegister; repeat (first | rfl | split)

@[simp] theorem sniff_lfsr4 (b : BusSample) (s : State) : (sniff b s).lfsr4 = s.lfsr4 := by
  simp [sniff]
@[simp] theorem sniff_lfsr5 (b : BusSample) (s : State) : (sniff b s).lfsr5 = s.lfsr5 := by
  simp [sniff]
@[simp] theorem sniff_lfsr9 (b : BusSample) (s : State) : (sniff b s).lfsr9 = s.lfsr9 := by
  simp [sniff]
@[simp] theorem sniff_lfsr17 (b : BusSample) (s : State) : (sniff b s).lfsr17 = s.lfsr17 := by
  simp [sniff]
@[simp] theorem sniff_step (b : BusSample) (s : State) : (sniff b s).step = s.step := by
  simp [sniff]
@[simp] theorem sniff_acc (b : BusSample) (s : State) : (sniff b s).acc = s.acc := by
  simp [sniff]
@[simp] theorem sniff_sample (b : BusSample) (s : State) : (sniff b s).sample = s.sample := by
  simp [sniff]
@[simp] theorem sniff_debt (b : BusSample) (s : State) : (sniff b s).debt = s.debt := by
  simp [sniff]
@[simp] theorem sniff_lastSampled (b : BusSample) (s : State) : (sniff b s).lastSampled = s.lastSampled := by
  simp [sniff]
@[simp] theorem sniff_driving (b : BusSample) (s : State) : (sniff b s).driving = s.driving := by
  simp [sniff]
@[simp] theorem sniff_faulted (b : BusSample) (s : State) : (sniff b s).faulted = s.faulted := by
  simp [sniff]
@[simp] theorem sniff_refused (b : BusSample) (s : State) : (sniff b s).refused = s.refused := by
  simp [sniff]
@[simp] theorem sniff_events (b : BusSample) (s : State) : (sniff b s).events = s.events := by
  simp [sniff]
@[simp] theorem sniff_rom (b : BusSample) (s : State) : (sniff b s).rom = s.rom := by
  simp [sniff]
@[simp] theorem sniff_cfg (b : BusSample) (s : State) : (sniff b s).cfg = s.cfg := by
  simp [sniff]
@[simp] theorem sniff_result (b : BusSample) (s : State) : (sniff b s).result = s.result := by
  simp [sniff]
@[simp] theorem sniff_inputs (b : BusSample) (s : State) : (sniff b s).inputs = s.inputs := by
  simp [sniff]
@[simp] theorem sniff_fresh (b : BusSample) (s : State) : (sniff b s).fresh = s.fresh := by
  simp [sniff]

@[simp] theorem emitOutput_regs (s : State) : (emitOutput s).regs = s.regs := rfl
@[simp] theorem emitOutput_ch (s : State) : (emitOutput s).ch = s.ch := rfl
@[simp] theorem emitOutput_lfsr4 (s : State) : (emitOutput s).lfsr4 = s.lfsr4 := rfl
@[simp] theorem emitOutput_lfsr5 (s : State) : (emitOutput s).lfsr5 = s.lfsr5 := rfl
@[simp] theorem emitOutput_lfsr9 (s : State) : (emitOutput s).lfsr9 = s.lfsr9 := rfl
@[simp] theorem emitOutput_lfsr17 (s : State) : (emitOutput s).lfsr17 = s.lfsr17 := rfl
@[simp] theorem emitOutput_step (s : State) : (emitOutput s).step = s.step := rfl
@[simp] theorem emitOutput_acc (s : State) : (emitOutput s).acc = s.acc := rfl
@[simp] theorem emitOutput_sample (s : State) : (emitOutput s).sample = s.sample := rfl
@[simp] theorem emitOutput_debt (s : State) : (emitOutput s).debt = s.debt := rfl
@[simp] theorem emitOutput_lastSampled (s : State) : (emitOutput s).lastSampled = s.lastSampled := rfl
@[simp] theorem emitOutput_driving (s : State) : (emitOutput s).driving = s.driving := rfl
@[simp] theorem emitOutput_faulted (s : State) : (emitOutput s).faulted = s.faulted := rfl
@[simp] theorem emitOutput_refused (s : State) : (emitOutput s).refused = s.refused := rfl
@[simp] theorem emitOutput_rom (s : State) : (emitOutput s).rom = s.rom := rfl
@[simp] theorem emitOutput_cfg (s : State) : (emitOutput s).cfg = s.cfg := rfl
@[simp] theorem emitOutput_result (s : State) : (emitOutput s).result = s.result := rfl
@[simp] theorem emitOutput_inputs (s : State) : (emitOutput s).inputs = s.inputs := rfl
@[simp] theorem emitOutput_fresh (s : State) : (emitOutput s).fresh = s.fresh := rfl

@[simp] theorem paySynthesis_regs (s : State) : (paySynthesis s).regs = s.regs := by
  unfold paySynthesis; split
  · dsimp only; split <;> simp
  · rfl
@[simp] theorem paySynthesis_lastSampled (s : State) : (paySynthesis s).lastSampled = s.lastSampled := by
  unfold paySynthesis; split
  · dsimp only; split <;> simp
  · rfl
@[simp] theorem paySynthesis_driving (s : State) : (paySynthesis s).driving = s.driving := by
  unfold paySynthesis; split
  · dsimp only; split <;> simp
  · rfl
@[simp] theorem paySynthesis_faulted (s : State) : (paySynthesis s).faulted = s.faulted := by
  unfold paySynthesis; split
  · dsimp only; split <;> simp
  · rfl
@[simp] theorem paySynthesis_refused (s : State) : (paySynthesis s).refused = s.refused := by
  unfold paySynthesis; split
  · dsimp only; split <;> simp
  · rfl
@[simp] theorem paySynthesis_rom (s : State) : (paySynthesis s).rom = s.rom := by
  unfold paySynthesis; split
  · dsimp only; split <;> simp
  · rfl
@[simp] theorem paySynthesis_cfg (s : State) : (paySynthesis s).cfg = s.cfg := by
  unfold paySynthesis; split
  · dsimp only; split <;> simp
  · rfl
@[simp] theorem paySynthesis_result (s : State) : (paySynthesis s).result = s.result := by
  unfold paySynthesis; split
  · dsimp only; split <;> simp
  · rfl
@[simp] theorem paySynthesis_inputs (s : State) : (paySynthesis s).inputs = s.inputs := by
  unfold paySynthesis; split
  · dsimp only; split <;> simp
  · rfl

@[simp] theorem release_driving (s : State) : (release s).driving = false := by
  unfold release; split
  · rfl
  · next h => simpa using h

@[simp] theorem release_events (s : State) :
    (release s).events = s.events ++ if s.driving then [.releaseBus] else [] := by
  unfold release; split <;> simp_all

@[simp] theorem enterLow_driving (t : Nat) (s : State) : (enterLow t s).driving = false := by simp [enterLow]
@[simp] theorem lowAccount_driving (t : Nat) (s : State) : (lowAccount t s).driving = false := by simp [lowAccount]
@[simp] theorem enterLow_events (t : Nat) (s : State) :
    (enterLow t s).events = s.events ++ if s.driving then [.releaseBus] else [] := by simp [enterLow]
@[simp] theorem lowAccount_events (t : Nat) (s : State) :
    (lowAccount t s).events = s.events ++ if s.driving then [.releaseBus] else [] := by simp [lowAccount]
@[simp] theorem romPath_driving (b : BusSample) (t : Nat) (s : State) : (romPath b t s).driving = true := by
  simp [romPath]
@[simp] theorem markHostWrite_romByte (b : BusSample) (s : State) (a : Addr) :
    romByte (markHostWrite b s) a = romByte s a := romByte_congr (by simp) (by simp) a
@[simp] theorem romPath_events (b : BusSample) (t : Nat) (s : State) :
    (romPath b t s).events = s.events ++ [.driveData (romByte s b.addr)] := by simp [romPath]
theorem romPath_faulted (b : BusSample) (t : Nat) (s : State) :
    (romPath b t s).faulted =
      if b.write ∧ Fault.hostWriteInRomRegion ∉ s.faulted then s.faulted ++ [.hostWriteInRomRegion] else s.faulted := by
  simp only [romPath, account_faulted, drive_faulted, markHostWrite]
  by_cases hw : b.write = true <;> by_cases hf : Fault.hostWriteInRomRegion ∈ s.faulted <;> simp [hw, hf]

/-- Sub-step (3) from a legal tick state answers a next state (R214). -/
theorem synthesis_next {s : State} (h : s.step.toNat ≤ 8) : synthesis s = .next ((paySynthesis s).returning .unit) := by
  have : badTick s = false := by simp [badTick, h]
  simp [synthesis, this]

/-- What sub-step (3) answers, if it answers a next state (R214). -/
theorem synthesis_cases {s t : State} (h : synthesis s = .next t) :
    t = (paySynthesis s).returning .unit ∧ (s.debt = 0 ∨ s.step.toNat ≤ 8) := by
  unfold synthesis at h
  split at h
  · cases h
  · next hb =>
    refine ⟨by cases h; rfl, ?_⟩
    simp only [badTick, debtOwed, Bool.and_eq_true, decide_eq_true_eq] at hb
    omega

/-- What paying for synthesis does (R214): nothing without debt, else a unit less, one tick step, and the sample emitted
if one is ready. -/
theorem paySynthesis_cases (s : State) :
    (s.debt = 0 ∧ paySynthesis s = s) ∨
    (0 < s.debt ∧ (advanceOneStep { s with debt := s.debt - 1 }).2 = false ∧
      paySynthesis s = (advanceOneStep { s with debt := s.debt - 1 }).1) ∨
    (0 < s.debt ∧ (advanceOneStep { s with debt := s.debt - 1 }).2 = true ∧
      paySynthesis s = emitOutput (advanceOneStep { s with debt := s.debt - 1 }).1) := by
  unfold paySynthesis
  by_cases hd : 0 < s.debt
  · have ho : debtOwed s = true := by simp [debtOwed, hd]
    have hc : consumeOne s = { s with debt := s.debt - 1 } := by simp [consumeOne, ho]
    rw [if_pos ho, hc]
    cases hr : (advanceOneStep { s with debt := s.debt - 1 }).2
    · exact .inr (.inl ⟨hd, rfl, by simp [hr]⟩)
    · exact .inr (.inr ⟨hd, rfl, by simp [hr]⟩)
  · exact .inl ⟨by omega, by simp [debtOwed, hd]⟩

/-- Accounting moves the debt and the phase only, and only if the policy asks (R216). -/
theorem account_cases (ps : List AccountPolicy) (t : Nat) (s : State) :
    (s.cfg.accountPolicy ∈ ps ∧ account ps t s = noteElapsed t s) ∨ (s.cfg.accountPolicy ∉ ps ∧ account ps t s = s) := by
  unfold account
  split
  · next h => exact .inl ⟨h, rfl⟩
  · next h => exact .inr ⟨h, rfl⟩

/-- The debt after accounting never exceeds its ceiling (R34, R181). -/
theorem noteElapsed_debt_le (t : Nat) (s : State) (h : s.debt ≤ s.cfg.debtMax) :
    (noteElapsed t s).debt ≤ s.cfg.debtMax := by
  unfold noteElapsed
  split
  · simp
  · split
    · simp
    · exact h

/-- The phase after accounting is a `CYCLE_BITS`-bit value (R35, R181). -/
theorem noteElapsed_phase (t : Nat) (s : State) (h : s.lastSampled < 2 ^ s.cfg.cycleBits) :
    (noteElapsed t s).lastSampled < 2 ^ s.cfg.cycleBits := by
  have hp : 0 < 2 ^ s.cfg.cycleBits := Nat.two_pow_pos _
  unfold noteElapsed
  split
  · simpa using Nat.mod_lt _ hp
  · split
    · simpa using Nat.mod_lt _ hp
    · exact h

end Sys2Proof.Machine
end

