-- ==== Sys2Proof/Laws/Commute.lean ====
section
/-!
SUPPORT. What the shared operations read: an operation's effect does not depend on the returned result, and accounting depends
on the parameters, the debt and the phase alone.
-/
namespace Sys2Proof.Machine

theorem mixStep_returning (c : Chan) (s : State) (r : Result) :
    mixStep c (s.returning r) = (mixStep c s).returning r := by
  have hc : contributes (s.returning r) c = contributes s c := rfl
  have hv : (s.returning r).ctl c = s.ctl c := rfl
  unfold mixStep addToAcc
  rw [hc, hv, State.returning_acc]
  split
  · split <;> rfl
  · rfl

theorem finalize_returning (s : State) (r : Result) : finalize (s.returning r) = (finalize s).returning r := by
  unfold finalize
  rw [State.returning_acc]
  split <;> rfl

/-- A tick step is the same whatever the last operation returned. -/
theorem advanceOneStep_returning (s : State) (r : Result) :
    advanceOneStep (s.returning r) = ((advanceOneStep s).1.returning r, (advanceOneStep s).2) := by
  have hm : ∀ c, tickMix c (s.returning r) = (tickMix c s).returning r := by
    intro c
    unfold tickMix
    rw [mixStep_returning]
    rfl
  have hf : tickFinal (s.returning r) = (tickFinal s).returning r := by
    unfold tickFinal
    rw [mixStep_returning, finalize_returning]
    rfl
  unfold advanceOneStep
  rw [State.returning_step]
  split <;> first | rfl | rw [hm] | rw [hf]

theorem consumeOne_returning (s : State) (r : Result) : consumeOne (s.returning r) = (consumeOne s).returning r := by
  unfold consumeOne
  have h : debtOwed (s.returning r) = debtOwed s := rfl
  rw [h]
  cases debtOwed s <;> rfl

/-- Synthesis is the same whatever the last operation returned. -/
theorem paySynthesis_returning (s : State) (r : Result) :
    paySynthesis (s.returning r) = (paySynthesis s).returning r := by
  unfold paySynthesis
  have h : debtOwed (s.returning r) = debtOwed s := rfl
  rw [h, consumeOne_returning, advanceOneStep_returning]
  cases debtOwed s
  · rfl
  · cases hr : (advanceOneStep (consumeOne s)).2
    · simp [hr]
    · simp only [hr, if_true]
      rfl

/-- A register write is the same whatever the last operation returned. -/
theorem writeRegister_returning (idx : BitVec 4) (v : Byte) (s : State) (r : Result) :
    writeRegister idx v (s.returning r) = (writeRegister idx v s).returning r := by
  unfold writeRegister
  by_cases h9 : idx = 9
  · simp only [h9, if_true]
    rfl
  · simp only [h9, if_false]
    cases idx.getLsbD 3
    · cases idx.getLsbD 0 <;> rfl
    · rfl

/-- The class instruction of an index does what the sniff's `writeRegister` does (R142, R86), for indices 8 to 15. -/
theorem writeRegister_high (idx : BitVec 4) (v : Byte) (s : State) (h : idx.getLsbD 3 = true) (h9 : idx ≠ 9) :
    writeRegister idx v s = s.setReg idx v := by
  simp only [writeRegister, h9, if_false, h, if_true]

/-- Two states with the same parameters, debt and phase have the same ones after accounting. -/
theorem noteElapsed_congr {s u : State} (t : Nat) (hc : u.cfg = s.cfg) (hd : u.debt = s.debt)
    (hl : u.lastSampled = s.lastSampled) :
    (noteElapsed t u).debt = (noteElapsed t s).debt ∧ (noteElapsed t u).lastSampled = (noteElapsed t s).lastSampled := by
  have he : elapsed u t = elapsed s t := by simp [elapsed, hc, hl]
  have hp : periods u t = periods s t := by simp [periods, he, hc]
  unfold noteElapsed
  rw [hc]
  split
  · simp [creditPeriods, hc, hd, hl, hp]
  · rw [he]
    split
    · simp [creditPeriods, hc, hd, hl]
    · exact ⟨hd, hl⟩

/-- Before the sniff, an iteration with the host CPU on the bus accounts for time exactly once under every policy (R216). -/
theorem lowAccount_eq (t : Nat) (s : State) : lowAccount t s = noteElapsed t (release s) := by
  unfold lowAccount enterLow account
  cases h : s.cfg.accountPolicy <;> simp [h]

/-- The release as one update (R212). -/
theorem release_eq (s : State) :
    release s = { s with driving := false, events := s.events ++ if s.driving then [.releaseBus] else [] } := by
  unfold release
  split
  · next h => simp [State.emit, State.setDriving, h]
  · next h =>
    cases s
    simp_all

end Sys2Proof.Machine
end

