-- ==== Sys2Proof/Laws/Encoding.lean ====
section
/-!
SUPPORT. The words of the encoder as numbers, and the fields the decoder takes from them.
-/
namespace Sys2Proof

theorem append_toNat {m n : Nat} (x : BitVec m) (y : BitVec n) : (x ++ y).toNat = x.toNat * 2 ^ n + y.toNat := by
  rw [BitVec.toNat_append, ← Nat.shiftLeft_add_eq_or_of_lt y.isLt, Nat.shiftLeft_eq]

theorem field_toNat {w : Nat} (x : BitVec w) (lo n : Nat) : (x.extractLsb' lo n).toNat = x.toNat / 2 ^ lo % 2 ^ n := by
  simp [BitVec.extractLsb'_toNat, Nat.shiftRight_eq_div_pow]

theorem low_bit_toNat (n : Nat) : (n % 2 == 1).toNat = n % 2 := by
  rcases Nat.mod_two_eq_zero_or_one n with h | h <;> simp [h]

theorem bit_eq {w : Nat} (x : BitVec w) (i : Nat) : x.getLsbD i = (x.toNat / 2 ^ i % 2 == 1) := by
  rw [BitVec.getLsbD, Nat.testBit_eq_decide_div_mod_eq]
  rfl

/-- A CMD word as a number (R82). -/
theorem cmdWord_toNat (op idx : BitVec 4) (v : Byte) :
    (cmdWord op idx v).toNat = op.toNat * 4096 + idx.toNat * 256 + v.toNat := by
  have h := append_toNat (op ++ idx) v
  rw [append_toNat op idx] at h
  rw [cmdWord, h]
  omega

theorem cmdWord_op (op idx : BitVec 4) (v : Byte) : (cmdWord op idx v).extractLsb' 12 4 = op := by
  apply BitVec.eq_of_toNat_eq
  rw [field_toNat, cmdWord_toNat]
  omega

theorem cmdWord_idx (op idx : BitVec 4) (v : Byte) : (cmdWord op idx v).extractLsb' 8 4 = idx := by
  apply BitVec.eq_of_toNat_eq
  rw [field_toNat, cmdWord_toNat]
  omega

theorem cmdWord_val (op idx : BitVec 4) (v : Byte) : (cmdWord op idx v).extractLsb' 0 8 = v := by
  apply BitVec.eq_of_toNat_eq
  rw [field_toNat, cmdWord_toNat]
  omega

/-- A BUS word as a number (R81). -/
theorem busWord_toNat (b : BusSample) :
    (busWord b).toNat = b.data.toNat * 262144 + b.cpuActive.toNat * 131072 + b.write.toNat * 65536 + b.addr.toNat := by
  have h := append_toNat (b.data ++ BitVec.ofBool b.cpuActive ++ BitVec.ofBool b.write) b.addr
  rw [append_toNat (b.data ++ BitVec.ofBool b.cpuActive), append_toNat b.data, BitVec.toNat_ofBool, BitVec.toNat_ofBool] at h
  rw [busWord, h]
  omega

/-- A sample is read back from its word (R81). -/
theorem busOfWord_busWord (b : BusSample) : busOfWord (busWord b) = b := by
  obtain ⟨d, c, w, a⟩ := b
  have hw := busWord_toNat ⟨d, c, w, a⟩
  have hc := Bool.toNat_le c
  have hb := Bool.toNat_le w
  simp only at hw
  simp only [busOfWord, BusSample.mk.injEq]
  refine ⟨?_, ?_, ?_, ?_⟩
  · apply BitVec.eq_of_toNat_eq
    rw [field_toNat, hw]
    omega
  · rw [bit_eq, hw]
    cases c <;> cases w <;> simp <;> omega
  · rw [bit_eq, hw]
    cases c <;> cases w <;> simp <;> omega
  · apply BitVec.eq_of_toNat_eq
    rw [field_toNat, hw]
    omega

/-- A word is rebuilt from the sample read from it (R81). -/
theorem busWord_busOfWord (x : BitVec 26) : busWord (busOfWord x) = x := by
  apply BitVec.eq_of_toNat_eq
  have hx := x.isLt
  rw [busWord_toNat]
  simp only [busOfWord, field_toNat, bit_eq, low_bit_toNat]
  omega

/-- The CMD words of OP 8..15 as numbers (R89). -/
theorem reservedWord_toNat (low : BitVec 15) : ((1 : BitVec 1) ++ low).toNat = 32768 + low.toNat := by
  rw [append_toNat]
  simp

end Sys2Proof
end

