-- ==== Sys2Proof/Laws/Memory.lean ====
section
/-!
SUPPORT. The sparse tables that hold the ROM image and the output scale: a read after a write, and the canonical form.
-/
namespace Sys2Proof.Machine

theorem cellsRead_below {dflt : Nat → Byte} {bound lo k : Nat} {l : List Host.Cell} (h : cellsWfFrom dflt bound lo l = true)
    (hk : k < lo) : cellsRead dflt l k = dflt k := by
  induction l generalizing lo with
  | nil => rfl
  | cons x rest ih =>
    obtain ⟨a, b⟩ := x
    simp only [cellsWfFrom, Bool.and_eq_true, decide_eq_true_eq] at h
    obtain ⟨⟨⟨h1, _⟩, _⟩, h4⟩ := h
    simp only [cellsRead]
    rw [if_neg (by omega), ih h4 (by omega)]

theorem cellsRead_write_same {dflt : Nat → Byte} {bound lo k : Nat} {l : List Host.Cell} (v : Byte)
    (h : cellsWfFrom dflt bound lo l = true) : cellsRead dflt (cellsWrite dflt l k v) k = v := by
  induction l generalizing lo with
  | nil =>
    simp only [cellsWrite]
    split
    · next hv => simp [cellsRead, hv]
    · simp [cellsRead]
  | cons x rest ih =>
    obtain ⟨a, b⟩ := x
    simp only [cellsWfFrom, Bool.and_eq_true, decide_eq_true_eq] at h
    obtain ⟨⟨⟨h1, h2⟩, h3⟩, h4⟩ := h
    simp only [cellsWrite]
    split
    · split
      · next hk hv =>
        simp only [cellsRead]
        rw [if_neg (by omega), cellsRead_below h4 (by omega), hv]
      · simp [cellsRead]
    · split
      · next hka =>
        split
        · next hv => rw [cellsRead_below h4 (by omega), hv]
        · simp [cellsRead]
      · simp only [cellsRead]
        rw [if_neg (by omega)]
        exact ih h4

theorem cellsRead_write_other {dflt : Nat → Byte} {k j : Nat} (l : List Host.Cell) (v : Byte) (hj : j ≠ k) :
    cellsRead dflt (cellsWrite dflt l k v) j = cellsRead dflt l j := by
  induction l with
  | nil =>
    simp only [cellsWrite]
    split
    · rfl
    · simp [cellsRead, hj.symm]
  | cons x rest ih =>
    obtain ⟨a, b⟩ := x
    simp only [cellsWrite]
    split
    · split
      · rfl
      · simp [cellsRead, hj.symm]
    · split
      · next hka =>
        split <;> simp [cellsRead, ← hka, hj.symm]
      · simp only [cellsRead]
        rw [ih]

theorem cellsWrite_wf {dflt : Nat → Byte} {bound lo k : Nat} {l : List Host.Cell} (v : Byte)
    (h : cellsWfFrom dflt bound lo l = true) (hlo : lo ≤ k) (hk : k < bound) :
    cellsWfFrom dflt bound lo (cellsWrite dflt l k v) = true := by
  induction l generalizing lo with
  | nil =>
    simp only [cellsWrite]
    split
    · rfl
    · next hv => simp [cellsWfFrom, hlo, hk, hv]
  | cons x rest ih =>
    obtain ⟨a, b⟩ := x
    simp only [cellsWfFrom, Bool.and_eq_true, decide_eq_true_eq] at h
    obtain ⟨⟨⟨h1, h2⟩, h3⟩, h4⟩ := h
    have weaker : ∀ {m n : Nat}, m ≤ n → cellsWfFrom dflt bound n rest = true → cellsWfFrom dflt bound m rest = true := by
      intro m n hmn hr
      cases rest with
      | nil => rfl
      | cons y ys =>
        simp only [cellsWfFrom, Bool.and_eq_true, decide_eq_true_eq] at hr ⊢
        obtain ⟨⟨⟨g1, g2⟩, g3⟩, g4⟩ := hr
        exact ⟨⟨⟨by omega, g2⟩, g3⟩, g4⟩
    simp only [cellsWrite]
    split
    · next hka =>
      split
      · simp [cellsWfFrom, h1, h2, h3, h4]
      · next hv => simp [cellsWfFrom, hlo, hk, hv, h2, h3, h4]; omega
    · split
      · next hka =>
        split
        · exact weaker (by omega) h4
        · next hv => subst hka; simp [cellsWfFrom, hlo, hk, hv, h4]
      · simp only [cellsWfFrom, Bool.and_eq_true, decide_eq_true_eq]
        exact ⟨⟨⟨h1, h2⟩, h3⟩, ih h4 (by omega)⟩

/-- A byte placed in the image is read back. -/
theorem Memory.read_write_same {size : Nat} {m : Memory} (h : m.wf size = true) (off : Nat) (v : Byte) :
    (m.write off v).read off = v := cellsRead_write_same v h

/-- A byte placed in the image changes no other. -/
theorem Memory.read_write_other (m : Memory) (off j : Nat) (v : Byte) (hj : j ≠ off) :
    (m.write off v).read j = m.read j := cellsRead_write_other m v hj

/-- Placing a byte keeps the canonical form. -/
theorem Memory.write_wf {size : Nat} {m : Memory} (h : m.wf size = true) (off : Nat) (v : Byte) (ho : off < size) :
    (m.write off v).wf size = true := cellsWrite_wf v h (Nat.zero_le _) ho

/-- Loading a byte from outside keeps the canonical form of the image. -/
theorem State.placeRom_wf {s : State} (h : s.rom.wf s.cfg.romSize = true) (off : Nat) (v : Byte) :
    (s.placeRom off v).rom.wf (s.placeRom off v).cfg.romSize = true := by
  unfold State.placeRom
  split
  · next ho => exact Memory.write_wf h off v ho
  · exact h

theorem State.reset_rom_wf : State.reset.rom.wf State.reset.cfg.romSize = true := rfl

end Sys2Proof.Machine
end

