-- ==== Sys2Proof/Laws/PerInstr.lean ====
section
/-!
SUPPORT. One law for every instruction: the word the encoder gives a well-formed instruction lies in the instruction's row of
spec/opcode_table.json, in the row's format and with the row's fixed bits (spec/30_encoding.md R86, R87, R88). The rows are
written here a second time, apart from the encoder and the decoder.
-/
namespace Sys2Proof.Laws.Rows

/-- The instruction formats (R80). -/
inductive Fmt | cmd | bus | tick | noise | timer | mix
deriving DecidableEq, Repr

/-- Fixed bits of a row: `width` bits from bit `lo` up hold `value`. -/
structure Fixed where
  lo    : Nat
  width : Nat
  value : Nat
deriving DecidableEq, Repr

/-- A row of the opcode table. -/
structure Row where
  fmt   : Fmt
  fixed : List Fixed
deriving DecidableEq, Repr

/-- The format and word of an encoded instruction. The micro-operation STIMER_RELOAD stands at the word of the WRITE_STIMER
that issues it. -/
def wordOf : Input → Fmt × Nat
  | .cmd w _ _ _ => (.cmd, w.toNat)
  | .bus w _ _ => (.bus, w.toNat)
  | .tick w => (.tick, w.toNat)
  | .noise w => (.noise, w.toNat)
  | .timer w => (.timer, w.toNat)
  | .mix w => (.mix, w.toNat)
  | .reload v => (.cmd, 0x1900 + v.toNat)

/-- The row's fixed bits stand in the word. -/
def Row.fits (r : Row) (x : Fmt × Nat) : Prop := x.1 = r.fmt ∧ ∀ f ∈ r.fixed, x.2 / 2 ^ f.lo % 2 ^ f.width = f.value

/-- The table's rows of an instruction, at the parameters of reset. -/
def rowsOf : Instr → List Row
  | .reset => [⟨.cmd, [⟨0, 16, 0x0000⟩]⟩]
  | .writeDiv _ _ => [⟨.cmd, [⟨8, 1, 0⟩, ⟨11, 5, 2⟩]⟩]
  | .writeCtl _ _ => [⟨.cmd, [⟨8, 1, 1⟩, ⟨11, 5, 2⟩]⟩]
  | .writeReg8 _ => [⟨.cmd, [⟨8, 8, 24⟩]⟩]
  | .writeStimer _ => [⟨.cmd, [⟨8, 8, 25⟩]⟩]
  | .writePlain _ _ => [⟨.cmd, [⟨9, 7, 13⟩]⟩, ⟨.cmd, [⟨10, 6, 7⟩]⟩]
  | .advance => [⟨.cmd, [⟨0, 16, 0x2000⟩]⟩]
  | .currentOutput => [⟨.cmd, [⟨0, 16, 0x3000⟩]⟩]
  | .noteElapsed _ => [⟨.cmd, [⟨0, 16, 0x4000⟩]⟩]
  | .consume => [⟨.cmd, [⟨0, 16, 0x5000⟩]⟩]
  | .busIterate _ _ _ => [⟨.cmd, [⟨0, 16, 0x6000⟩]⟩]
  | .blockReset _ => [⟨.cmd, [⟨0, 16, 0x7000⟩]⟩]
  | .reservedOp _ => [⟨.cmd, [⟨15, 1, 1⟩]⟩]
  | .busRom _ _ _ => [⟨.bus, [⟨15, 1, 1⟩]⟩, ⟨.bus, [⟨14, 2, 1⟩]⟩]
  | .busRegWrite _ _ _ => [⟨.bus, [⟨4, 14, 12358⟩]⟩]
  | .busLowActive _ _ _ => [⟨.bus, [⟨14, 2, 0⟩, ⟨17, 1, 1⟩]⟩]
  | .busLowDma _ _ _ => [⟨.bus, [⟨14, 2, 0⟩, ⟨17, 1, 0⟩]⟩]
  | .tickStep0 => [⟨.tick, [⟨0, 4, 0⟩]⟩]
  | .tickTimer0 => [⟨.tick, [⟨0, 4, 1⟩]⟩]
  | .tickTimer1 => [⟨.tick, [⟨0, 4, 2⟩]⟩]
  | .tickTimer2 => [⟨.tick, [⟨0, 4, 3⟩]⟩]
  | .tickTimer3 => [⟨.tick, [⟨0, 4, 4⟩]⟩]
  | .tickMix0 => [⟨.tick, [⟨0, 4, 5⟩]⟩]
  | .tickMix1 => [⟨.tick, [⟨0, 4, 6⟩]⟩]
  | .tickMix2 => [⟨.tick, [⟨0, 4, 7⟩]⟩]
  | .tickMix3Final => [⟨.tick, [⟨0, 4, 8⟩]⟩]
  | .tickReserved _ => [⟨.tick, [⟨0, 4, 9⟩]⟩, ⟨.tick, [⟨1, 3, 5⟩]⟩, ⟨.tick, [⟨2, 2, 3⟩]⟩]
  | .lfsr4Step => [⟨.noise, [⟨0, 2, 0⟩]⟩]
  | .lfsr5Step => [⟨.noise, [⟨0, 2, 1⟩]⟩]
  | .lfsr9Step => [⟨.noise, [⟨0, 2, 2⟩]⟩]
  | .lfsr17Step => [⟨.noise, [⟨0, 2, 3⟩]⟩]
  | .timerStep c => [⟨.timer, [⟨0, 2, c.val⟩]⟩]
  | .mixStep c => [⟨.mix, [⟨0, 2, c.val⟩]⟩]
  | .stimerReload _ => [⟨.cmd, [⟨8, 8, 25⟩]⟩]

/-- A well-formed instruction's word lies in one of the instruction's rows. -/
def Statement (i : Instr) : Prop :=
  WellFormed Params.atReset i = true → ∃ r ∈ rowsOf i, r.fits (wordOf (encode i))

/-- A row with one fixed field fits where that field holds its value. -/
theorem fits_one {m : Fmt} {n lo width value : Nat} (h : n / 2 ^ lo % 2 ^ width = value) :
    Row.fits ⟨m, [⟨lo, width, value⟩]⟩ (m, n) := by
  refine ⟨rfl, fun f hf => ?_⟩
  rw [List.mem_singleton] at hf
  rw [hf]
  exact h

/-- A row with two fixed fields fits where both hold their values. -/
theorem fits_two {m : Fmt} {n l1 w1 v1 l2 w2 v2 : Nat} (h1 : n / 2 ^ l1 % 2 ^ w1 = v1) (h2 : n / 2 ^ l2 % 2 ^ w2 = v2) :
    Row.fits ⟨m, [⟨l1, w1, v1⟩, ⟨l2, w2, v2⟩]⟩ (m, n) := by
  refine ⟨rfl, fun f hf => ?_⟩
  rw [List.mem_pair] at hf
  rcases hf with rfl | rfl
  · exact h1
  · exact h2

theorem reset : Statement .reset := fun _ => ⟨_, .head _, fits_one (by decide)⟩

theorem chanIndex_toNat (c : Chan) (odd : Bool) : (chanIndex c odd).toNat = 2 * c.val + odd.toNat := by
  revert c odd
  decide

theorem writeDiv (c : Chan) (v : Byte) : Statement (.writeDiv c v) := by
  intro _
  have hw := cmdWord_toNat 1 (chanIndex c false) v
  have hv := v.isLt
  have hc := c.isLt
  rw [chanIndex_toNat] at hw
  change _ = 1 * 4096 + (2 * c.val + 0) * 256 + _ at hw
  exact ⟨_, .head _, fits_two (by omega) (by omega)⟩

theorem writeCtl (c : Chan) (v : Byte) : Statement (.writeCtl c v) := by
  intro _
  have hw := cmdWord_toNat 1 (chanIndex c true) v
  have hv := v.isLt
  have hc := c.isLt
  rw [chanIndex_toNat] at hw
  change _ = 1 * 4096 + (2 * c.val + 1) * 256 + _ at hw
  exact ⟨_, .head _, fits_two (by omega) (by omega)⟩

theorem writeReg8 (v : Byte) : Statement (.writeReg8 v) := by
  intro _
  have hv := v.isLt
  refine ⟨_, .head _, fits_one ?_⟩
  rw [cmdWord_toNat]
  simp
  omega

theorem writeStimer (v : Byte) : Statement (.writeStimer v) := by
  intro _
  have hv := v.isLt
  refine ⟨_, .head _, fits_one ?_⟩
  rw [cmdWord_toNat]
  simp
  omega

theorem writePlain (idx : BitVec 4) (v : Byte) : Statement (.writePlain idx v) := by
  intro h
  simp only [WellFormed, decide_eq_true_eq] at h
  have hv := v.isLt
  have hi := idx.isLt
  by_cases h12 : idx.toNat < 12
  · refine ⟨_, .head _, fits_one ?_⟩
    rw [cmdWord_toNat]
    simp
    omega
  · refine ⟨_, .tail _ (.head _), fits_one ?_⟩
    rw [cmdWord_toNat]
    simp
    omega

theorem advance : Statement .advance := fun _ => ⟨_, .head _, fits_one (by decide)⟩

theorem currentOutput : Statement .currentOutput := fun _ => ⟨_, .head _, fits_one (by decide)⟩

theorem noteElapsed (t : Nat) : Statement (.noteElapsed t) := fun _ => ⟨_, .head _, fits_one (by decide)⟩

theorem consume : Statement .consume := fun _ => ⟨_, .head _, fits_one (by decide)⟩

theorem busIterate (b : BusSample) (t : Nat) (a2 : Addr) : Statement (.busIterate b t a2) :=
  fun _ => ⟨_, .head _, fits_one (by decide)⟩

theorem blockReset (c0 : Nat) : Statement (.blockReset c0) := fun _ => ⟨_, .head _, fits_one (by decide)⟩

theorem reservedOp (low : BitVec 15) : Statement (.reservedOp low) := by
  intro _
  have hl := low.isLt
  refine ⟨_, .head _, fits_one ?_⟩
  rw [reservedWord_toNat]
  omega

/-- What a class says of its sample, at the parameters of reset. -/
theorem classify_atReset (b : BusSample) :
    match Machine.classify Params.atReset b with
    | .rom => 16384 ≤ b.addr.toNat
    | .regWrite => b.cpuActive = true ∧ b.write = true ∧ b.addr.toNat / 16 = 70
    | .lowActive => b.addr.toNat < 16384 ∧ b.cpuActive = true
    | .lowDma => b.addr.toNat < 16384 ∧ b.cpuActive = false := by
  have hw : Machine.inWindow Params.atReset b.addr = true → b.addr.toNat / 16 = 70 := by
    intro h
    have h' := congrArg BitVec.toNat (eq_of_beq h)
    have := b.addr.isLt
    rw [field_toNat, field_toNat] at h'
    simp only [Params.atReset] at h'
    have e : (0x0460 : Addr).toNat = 1120 := rfl
    omega
  unfold Machine.classify Machine.inRom
  have e : Params.atReset.romBase.toNat = 16384 := rfl
  rw [e]
  by_cases h1 : 16384 ≤ b.addr.toNat
  · simp [h1]
  · cases hc : b.cpuActive
    · simp [h1]
      omega
    · cases hb : b.write
      · simp [h1]
        omega
      · cases hi : Machine.inWindow Params.atReset b.addr
        · simp [h1]
          omega
        · simp [h1, hw hi]

theorem busRom (b : BusSample) (t : Nat) (a2 : Addr) : Statement (.busRom b t a2) := by
  intro h
  simp only [WellFormed, Bool.and_eq_true, beq_iff_eq] at h
  have hc := classify_atReset b
  rw [h.1] at hc
  have ha := b.addr.isLt
  simp only at hc
  by_cases h15 : 32768 ≤ b.addr.toNat
  · refine ⟨_, .head _, fits_one ?_⟩
    rw [busWord_toNat]
    omega
  · refine ⟨_, .tail _ (.head _), fits_one ?_⟩
    rw [busWord_toNat]
    omega

theorem busRegWrite (b : BusSample) (t : Nat) (a2 : Addr) : Statement (.busRegWrite b t a2) := by
  intro h
  simp only [WellFormed, Bool.and_eq_true, beq_iff_eq] at h
  have hc := classify_atReset b
  rw [h.1] at hc
  have ha := b.addr.isLt
  simp only at hc
  refine ⟨_, .head _, fits_one ?_⟩
  rw [busWord_toNat, hc.1, hc.2.1]
  simp only [Bool.toNat_true]
  omega

theorem busLowActive (b : BusSample) (t : Nat) (a2 : Addr) : Statement (.busLowActive b t a2) := by
  intro h
  simp only [WellFormed, Bool.and_eq_true, beq_iff_eq] at h
  have hc := classify_atReset b
  rw [h.1] at hc
  simp only at hc
  have hb := Bool.toNat_le b.write
  have hw := busWord_toNat b
  rw [hc.2, Bool.toNat_true] at hw
  exact ⟨_, .head _, fits_two (by omega) (by omega)⟩

theorem busLowDma (b : BusSample) (t : Nat) (a2 : Addr) : Statement (.busLowDma b t a2) := by
  intro h
  simp only [WellFormed, Bool.and_eq_true, beq_iff_eq] at h
  have hc := classify_atReset b
  rw [h.1] at hc
  simp only at hc
  have hb := Bool.toNat_le b.write
  have hw := busWord_toNat b
  rw [hc.2, Bool.toNat_false] at hw
  exact ⟨_, .head _, fits_two (by omega) (by omega)⟩

theorem tickStep0 : Statement .tickStep0 := fun _ => ⟨_, .head _, fits_one (by decide)⟩

theorem tickTimer0 : Statement .tickTimer0 := fun _ => ⟨_, .head _, fits_one (by decide)⟩

theorem tickTimer1 : Statement .tickTimer1 := fun _ => ⟨_, .head _, fits_one (by decide)⟩

theorem tickTimer2 : Statement .tickTimer2 := fun _ => ⟨_, .head _, fits_one (by decide)⟩

theorem tickTimer3 : Statement .tickTimer3 := fun _ => ⟨_, .head _, fits_one (by decide)⟩

theorem tickMix0 : Statement .tickMix0 := fun _ => ⟨_, .head _, fits_one (by decide)⟩

theorem tickMix1 : Statement .tickMix1 := fun _ => ⟨_, .head _, fits_one (by decide)⟩

theorem tickMix2 : Statement .tickMix2 := fun _ => ⟨_, .head _, fits_one (by decide)⟩

theorem tickMix3Final : Statement .tickMix3Final := fun _ => ⟨_, .head _, fits_one (by decide)⟩

theorem tickReserved (v : BitVec 4) : Statement (.tickReserved v) := by
  intro h
  simp only [WellFormed, decide_eq_true_eq] at h
  have hv := v.isLt
  by_cases h9 : v.toNat = 9
  · exact ⟨_, .head _, fits_one (by omega)⟩
  by_cases h12 : v.toNat < 12
  · exact ⟨_, .tail _ (.head _), fits_one (by omega)⟩
  · exact ⟨_, .tail _ (.tail _ (.head _)), fits_one (by omega)⟩

theorem lfsr4Step : Statement .lfsr4Step := fun _ => ⟨_, .head _, fits_one (by decide)⟩

theorem lfsr5Step : Statement .lfsr5Step := fun _ => ⟨_, .head _, fits_one (by decide)⟩

theorem lfsr9Step : Statement .lfsr9Step := fun _ => ⟨_, .head _, fits_one (by decide)⟩

theorem lfsr17Step : Statement .lfsr17Step := fun _ => ⟨_, .head _, fits_one (by decide)⟩

theorem timerStep (c : Chan) : Statement (.timerStep c) := fun _ => ⟨_, .head _, fits_one (by revert c; decide)⟩

theorem mixStep (c : Chan) : Statement (.mixStep c) := fun _ => ⟨_, .head _, fits_one (by revert c; decide)⟩

theorem stimerReload (v : Byte) : Statement (.stimerReload v) := by
  intro _
  have hv := v.isLt
  exact ⟨_, .head _, fits_one (by omega)⟩

end Sys2Proof.Laws.Rows
end

