-- ==== Sys2Proof/Tests/Slice0.lean ====
section
/-!
SUPPORT. The model's own tests: what WellFormed refuses, words written out from the spec's encodings, one or two steps for
each instruction with the results of spec/95_test_vectors.md, and a witness for the hypotheses of every statement.
-/
namespace Sys2Proof.Tests
open Sys2Proof Sys2Proof.Machine

/-- The state after reset with the parameters the vectors of 95_test_vectors.md take: SCHED_PERIOD 100, the suggested
distortion table, counting from 0, and five bytes of the test image. -/
def demo : State :=
  { State.reset with
    cfg := { Params.atReset with schedPeriod := 100, dist := Params.suggestedDist }
    lastSampled := 0
    rom := [(0, 0x00), (0x0461, 0x65), (0x1000, 0x10), (0x1001, 0x11), (0x4000, 0x40)] }

/-- A state in which nothing is as reset leaves it: the divisors and counters of L1.4, and odd values elsewhere. -/
def dirty : State :=
  { demo with
    regs := #v[10, 0xAF, 0, 0xAF, 255, 0xAF, 1, 0xAF, 8, 9, 0xA, 0xB, 0xC, 0xD, 0xE, 0xF]
    ch := #v[⟨10, 3, true⟩, ⟨0, 7, true⟩, ⟨255, 0, true⟩, ⟨1, 200, true⟩]
    lfsr4 := 8, lfsr5 := 0x10, lfsr9 := 0x100, lfsr17 := 0x2000
    step := 8, acc := 45, sample := 63, debt := 1999, lastSampled := 1000, driving := true }

/-- The instruction answers a next state of which `p` holds. -/
def runs (i : Instr) (s : State) (p : State → Bool) : Bool :=
  match exec i s with
  | .next t => p t
  | .fault _ => false
  | .refused _ => false

/-- One step answers a next state of which `p` holds. -/
def steps (s : State) (p : State → Bool) : Bool :=
  match step s with
  | .next t => p t
  | .fault _ => false
  | .refused _ => false

/-- The outcome is the refusal `r`. -/
def refuses (o : Host.Outcome State Fault Refusal) (r : Refusal) : Bool :=
  match o with
  | .next _ => false
  | .fault _ => false
  | .refused q => q == r

/-- `demo` with another channel 0 and another CTL0. -/
def channelZero (x : Channel) (ctl : Byte) : State := { demo with ch := demo.ch.set 0 x, regs := demo.regs.set 1 ctl }

/-- The generators at a noise index: the low bits of the four, the rest of each arbitrary. -/
def noiseAt (s : State) (b4 b5 b9 b17 : Bool) : State :=
  { s with lfsr4 := if b4 then 3 else 2, lfsr5 := if b5 then 3 else 2, lfsr9 := if b9 then 3 else 2,
           lfsr17 := if b17 then 3 else 2 }

/-- The bus sample of a vector's line. -/
def sampleOf (a : Addr) (d : Byte) (c w : Bool) : BusSample := { data := d, cpuActive := c, write := w, addr := a }

/-! ### What WellFormed refuses (R82, R86, R87, R89) -/

theorem test_wf_plain_index : WellFormed demo.cfg (.writePlain 9 0) = false ∧ WellFormed demo.cfg (.writePlain 10 0) = true := by
  decide

theorem test_wf_cycle_note : WellFormed demo.cfg (.noteElapsed 0x100000000) = false ∧
    WellFormed demo.cfg (.noteElapsed 0xFFFFFFFF) = true := by decide

theorem test_wf_cycle_iterate : WellFormed demo.cfg (.busIterate (sampleOf 0 0 true false) 0x100000000 0) = false := by decide

theorem test_wf_cycle_reset : WellFormed demo.cfg (.blockReset 0x100000000) = false := by decide

theorem test_wf_rom_class : WellFormed demo.cfg (.busRom (sampleOf 0x3FFF 0 true false) 0 0) = false ∧
    WellFormed demo.cfg (.busRom (sampleOf 0x4000 0 true false) 0 0) = true := by decide

theorem test_wf_write_class : WellFormed demo.cfg (.busRegWrite (sampleOf 0x0470 0 true true) 0 0) = false ∧
    WellFormed demo.cfg (.busRegWrite (sampleOf 0x046F 0 true true) 0 0) = true := by decide

theorem test_wf_active_class : WellFormed demo.cfg (.busLowActive (sampleOf 0x0460 0 true true) 0 0) = false ∧
    WellFormed demo.cfg (.busLowActive (sampleOf 0x0460 0 true false) 0 0) = true := by decide

theorem test_wf_dma_class : WellFormed demo.cfg (.busLowDma (sampleOf 0x0100 0 true false) 0 0) = false ∧
    WellFormed demo.cfg (.busLowDma (sampleOf 0x0100 0 false false) 0 0) = true := by decide

theorem test_wf_bus_cycles : WellFormed demo.cfg (.busRom (sampleOf 0x4000 0 true false) 0x100000000 0) = false ∧
    WellFormed demo.cfg (.busRegWrite (sampleOf 0x0460 0 true true) 0x100000000 0) = false ∧
    WellFormed demo.cfg (.busLowActive (sampleOf 0x0100 0 true false) 0x100000000 0) = false ∧
    WellFormed demo.cfg (.busLowDma (sampleOf 0x0100 0 false false) 0x100000000 0) = false := by decide

theorem test_wf_tick : WellFormed demo.cfg (.tickReserved 8) = false ∧ WellFormed demo.cfg (.tickReserved 9) = true := by decide

/-! ### Words written out from the encodings: OP IDX VAL (R82), D C W A (R81), the values of R88 -/

theorem test_decode_plain_commands :
    decode demo.cfg (.cmd 0b0000000000000000 0 0 0) = .ok .reset ∧
    decode demo.cfg (.cmd 0b0010000000000000 0 0 0) = .ok .advance ∧
    decode demo.cfg (.cmd 0b0011000000000000 0 0 0) = .ok .currentOutput ∧
    decode demo.cfg (.cmd 0b0100000000000000 0 1350 0) = .ok (.noteElapsed 1350) ∧
    decode demo.cfg (.cmd 0b0101000000000000 0 0 0) = .ok .consume ∧
    decode demo.cfg (.cmd 0b0111000000000000 0 5000 0) = .ok (.blockReset 5000) := by decide

/-- The words of L2.5. -/
theorem test_decode_register_writes :
    decode demo.cfg (.cmd 0b0001000000001010 0 0 0) = .ok (.writeDiv 0 0x0A) ∧
    decode demo.cfg (.cmd 0b0001011011111111 0 0 0) = .ok (.writeDiv 3 0xFF) ∧
    decode demo.cfg (.cmd 0b0001000110101111 0 0 0) = .ok (.writeCtl 0 0xAF) ∧
    decode demo.cfg (.cmd 0b0001011100010000 0 0 0) = .ok (.writeCtl 3 0x10) ∧
    decode demo.cfg (.cmd 0b0001100011111111 0 0 0) = .ok (.writeReg8 0xFF) ∧
    decode demo.cfg (.cmd 0b0001100100000000 0 0 0) = .ok (.writeStimer 0x00) ∧
    decode demo.cfg (.cmd 0b0001101000000001 0 0 0) = .ok (.writePlain 10 0x01) ∧
    decode demo.cfg (.cmd 0b0001111110000000 0 0 0) = .ok (.writePlain 15 0x80) := by decide

/-- The words L2.14 refuses, and the highest operation code. -/
theorem test_decode_reserved :
    decode demo.cfg (.cmd 0b0010000000000001 0 0 0) = .error .reservedBits ∧
    decode demo.cfg (.cmd 0b1000000000000000 0 0 0) = .ok (.reservedOp 0) ∧
    decode demo.cfg (.cmd 0b1111111111111111 0 0 0) = .ok (.reservedOp 0x7FFF) := by decide

theorem test_decode_bus_iterate :
    decode demo.cfg (.cmd 0b0110000000000000 0b00001010110000010001100000 120 0x0460) =
      .ok (.busIterate (sampleOf 0x0460 0x0A true true) 120 0x0460) := by decide

/-- The words of L2.11. -/
theorem test_decode_bus_high :
    decode demo.cfg (.bus 0x0025000 0 0) = .ok (.busRom (sampleOf 0x5000 0 true false) 0 0) ∧
    decode demo.cfg (.bus 0x0008000 0 0) = .ok (.busRom (sampleOf 0x8000 0 false false) 0 0) ∧
    decode demo.cfg (.bus 0x0024000 0 0) = .ok (.busRom (sampleOf 0x4000 0 true false) 0 0) ∧
    decode demo.cfg (.bus 0x0034461 0 0) = .ok (.busRom (sampleOf 0x4461 0 true true) 0 0) := by decide

/-- The words of L2.11. -/
theorem test_decode_bus_low :
    decode demo.cfg (.bus 0b00001010110000010001100000 0 0) = .ok (.busRegWrite (sampleOf 0x0460 0x0A true true) 0 0) ∧
    decode demo.cfg (.bus 0x1DF046F 0 0) = .ok (.busRegWrite (sampleOf 0x046F 0x77 true true) 0 0) ∧
    decode demo.cfg (.bus 0x0023FFF 0 0) = .ok (.busLowActive (sampleOf 0x3FFF 0 true false) 0 0) ∧
    decode demo.cfg (.bus 0x1DF045F 0 0) = .ok (.busLowActive (sampleOf 0x045F 0x77 true true) 0 0) ∧
    decode demo.cfg (.bus 0x1DF0470 0 0) = .ok (.busLowActive (sampleOf 0x0470 0x77 true true) 0 0) ∧
    decode demo.cfg (.bus 0x1DD0460 0 0) = .ok (.busLowDma (sampleOf 0x0460 0x77 false true) 0 0) := by decide

theorem test_decode_ticks :
    decode demo.cfg (.tick 0b0000) = .ok .tickStep0 ∧ decode demo.cfg (.tick 0b0001) = .ok .tickTimer0 ∧
    decode demo.cfg (.tick 0b0010) = .ok .tickTimer1 ∧ decode demo.cfg (.tick 0b0011) = .ok .tickTimer2 ∧
    decode demo.cfg (.tick 0b0100) = .ok .tickTimer3 ∧ decode demo.cfg (.tick 0b0101) = .ok .tickMix0 ∧
    decode demo.cfg (.tick 0b0110) = .ok .tickMix1 ∧ decode demo.cfg (.tick 0b0111) = .ok .tickMix2 ∧
    decode demo.cfg (.tick 0b1000) = .ok .tickMix3Final ∧ decode demo.cfg (.tick 0b1001) = .ok (.tickReserved 9) ∧
    decode demo.cfg (.tick 0b1111) = .ok (.tickReserved 15) := by decide

theorem test_decode_micro_operations :
    decode demo.cfg (.noise 0b00) = .ok .lfsr4Step ∧ decode demo.cfg (.noise 0b01) = .ok .lfsr5Step ∧
    decode demo.cfg (.noise 0b10) = .ok .lfsr9Step ∧ decode demo.cfg (.noise 0b11) = .ok .lfsr17Step ∧
    decode demo.cfg (.timer 0b10) = .ok (.timerStep 2) ∧ decode demo.cfg (.mix 0b11) = .ok (.mixStep 3) ∧
    decode demo.cfg (.reload 0x42) = .ok (.stimerReload 0x42) := by decide

/-- R92: TONE and MUTE are two writes and one; P6's POKE is the word 0x2BF0461; ADV9 is nine words 0x2000. -/
theorem test_pseudo_operations :
    (asmTone 0 10 0xAF).map asmInput = [.cmd 0x100A 0 0 0, .cmd 0x11AF 0 0 0] ∧
    (asmMute 3).map asmInput = [.cmd 0x1710 0 0 0] ∧ asmStimer.map asmInput = [.cmd 0x1900 0 0 0] ∧
    (asmPoke 0x0461 0xAF 100).map asmInput = [.cmd 0x6000 0x2BF0461 100 0x0461] ∧
    (asmRead 0x0100 300).map asmInput = [.cmd 0x6000 0x0020100 300 0x0100] ∧
    asmAdv9.map asmInput = List.replicate 9 (.cmd 0x2000 0 0 0) ∧ regNumber (.plain 5) = 15 := by decide

/-! ### One step of each instruction -/

/-- L1.3. -/
theorem test_reset : runs .reset dirty (fun t => t.regs == demo.regs && t.ch == demo.ch && t.lfsr4 == 0xF && t.lfsr5 == 0x1F &&
    t.lfsr9 == 0x1FF && t.lfsr17 == 0x1FFFF && t.step == 0 && t.acc == 0 && t.sample == 0 && t.debt == 1999) = true := by decide

/-- L1.4: `WR 6,0x33` sets the divisor and leaves the counter. -/
theorem test_writeDiv : runs (.writeDiv 3 0x33) dirty (fun t => t.regs[6] == 0x33 && t.ch[3] == ⟨0x33, 200, true⟩) = true := by
  decide

/-- L2.5: `WR 1,0xAF`; nothing else. -/
theorem test_writeCtl : runs (.writeCtl 0 0xAF) demo (fun t => t.regs[1] == 0xAF && t.regs[0] == 0 && t.ch == demo.ch) = true := by
  decide

/-- L2.5: `WR 8,0xFF`. -/
theorem test_writeReg8 : runs (.writeReg8 0xFF) dirty (fun t => t.regs[8] == 0xFF && t.regs[9] == 9 && t.ch == dirty.ch) = true := by
  decide

/-- L1.4, L2.4: `WR 9,0x42` reloads the counters with 10, 0, 255, 1 and leaves the outputs. -/
theorem test_writeStimer : runs (.writeStimer 0x42) dirty (fun t => t.regs[9] == 0x42 &&
    t.ch == #v[⟨10, 10, true⟩, ⟨0, 0, true⟩, ⟨255, 255, true⟩, ⟨1, 1, true⟩]) = true := by decide

/-- L2.5: `WR 15,0x80`. -/
theorem test_writePlain : runs (.writePlain 15 0x80) dirty (fun t => t.regs[15] == 0x80 && t.regs[14] == 0xE) = true := by decide

/-- L2.6: from step 8, true and step 0. -/
theorem test_advance_last : runs .advance dirty (fun t => t.result == .bool true && t.step == 0) = true := by decide

/-- L2.6: a state with step 9 is refused. -/
theorem test_advance_bad : refuses (exec .advance { demo with step := 9 }) .badTickState = true := by decide

theorem test_currentOutput : runs .currentOutput dirty (fun t => t.result == .byte 63) = true := by decide

/-- L2.9: the counter wraps; 112 cycles are one period and 12 are kept. -/
theorem test_noteElapsed_wrap : runs (.noteElapsed 0x30) { demo with lastSampled := 0xFFFFFFC0 } (fun t =>
    t.debt == 1 && t.lastSampled == 0x24) = true := by decide

/-- L2.9: clamped, and the phase advances. -/
theorem test_noteElapsed_clamp : runs (.noteElapsed 1350) dirty (fun t => t.debt == 2000 && t.lastSampled == 1300) = true := by decide

/-- L2.10. -/
theorem test_consume : runs .consume { demo with debt := 2 } (fun t => t.result == .bool true && t.debt == 1) = true := by decide

/-- L2.10. -/
theorem test_consume_none : runs .consume demo (fun t => t.result == .bool false && t.debt == 0) = true := by decide

/-- P1, operation 2: release, one period noted, the register written, one tick step paid. -/
theorem test_busIterate : runs (.busIterate (sampleOf 0x0460 0x0A true true) 120 0) { demo with driving := true } (fun t =>
    t.events == [.releaseBus] && t.regs[0] == 0x0A && t.ch[0] == ⟨10, 0, false⟩ && t.debt == 0 && t.lastSampled == 100 &&
    t.step == 1 && t.lfsr17 == 0x1FFFE && !t.driving) = true := by decide

/-- L2.13: the second sample differs. -/
theorem test_busIterate_glitch : runs (.busIterate (sampleOf 0x0460 0x33 true true) 120 0x4460)
    { demo with driving := true, cfg := { demo.cfg with glitchFilter := true } } (fun t =>
    t.events == [] && t.driving && t.regs[0] == 0) = true := by decide

/-- L2.15. -/
theorem test_blockReset : runs (.blockReset 5000) dirty (fun t => t.lastSampled == 5000 && t.debt == 0 && !t.driving &&
    t.sample == 0 && t.regs == demo.regs) = true := by decide

/-- L2.14. -/
theorem test_reservedOp : refuses (exec (.reservedOp 0) demo) .reservedOp = true := by decide

/-- L2.14: the write is marked, the byte of the image is driven, nothing is stored. -/
theorem test_busRom : runs (.busRom (sampleOf 0x4461 0 true true) 200 0) demo (fun t => t.events == [.driveData 0x65] &&
    t.faulted == [.hostWriteInRomRegion] && t.driving && t.regs == demo.regs && t.debt == 0) = true := by decide

/-- R213: index 15 of the window. -/
theorem test_busRegWrite : runs (.busRegWrite (sampleOf 0x046F 0x77 true true) 0 0) demo (fun t => t.regs[15] == 0x77 &&
    t.step == 0) = true := by decide

/-- P4, operation 1: two periods noted, one consumed, tick step 0. -/
theorem test_busLowActive : runs (.busLowActive (sampleOf 0x0100 0 true false) 250 0) demo (fun t => t.debt == 1 &&
    t.lastSampled == 200 && t.step == 1) = true := by decide

/-- R215: the tick step that completes a sample emits it. -/
theorem test_busLowActive_emit : runs (.busLowActive (sampleOf 0x0100 0 true false) 1000 0)
    { dirty with debt := 1, driving := false } (fun t => t.events == [.emitSample 255] && t.step == 0) = true := by decide

/-- L2.12, line 1, under LOW_ANY; and under the default policy. -/
theorem test_busLowDma : runs (.busLowDma (sampleOf 0x0100 0 false false) 300 0)
      { demo with cfg := { demo.cfg with accountPolicy := .lowAny } } (fun t => t.debt == 3 && t.lastSampled == 300) = true ∧
    runs (.busLowDma (sampleOf 0x0100 0 false false) 300 0) demo (fun t => t.debt == 0 && t.lastSampled == 0) = true := by decide

/-- L1.2, L2.1. -/
theorem test_tickStep0 : runs .tickStep0 demo (fun t => t.lfsr4 == 0xE && t.lfsr5 == 0x1E && t.lfsr9 == 0x1FE &&
    t.lfsr17 == 0x1FFFE && t.acc == 0 && t.step == 1 && t.result == .bool false) = true := by decide

/-- L1.2: under WRAP the counters go from 0 to 255. -/
theorem test_tickTimers : runs .tickTimer0 demo (fun t => t.ch[0] == ⟨0, 255, false⟩ && t.step == 2) = true ∧
    runs .tickTimer1 demo (fun t => t.ch[1] == ⟨0, 255, false⟩ && t.step == 3) = true ∧
    runs .tickTimer2 demo (fun t => t.ch[2] == ⟨0, 255, false⟩ && t.step == 4) = true ∧
    runs .tickTimer3 demo (fun t => t.ch[3] == ⟨0, 255, false⟩ && t.step == 5) = true := by decide

/-- L2.7: four channels at volume 15 in mode 5. -/
theorem test_tickMixes : runs .tickMix0 { dirty with acc := 0 } (fun t => t.acc == 15 && t.step == 6) = true ∧
    runs .tickMix1 { dirty with acc := 15 } (fun t => t.acc == 30 && t.step == 7) = true ∧
    runs .tickMix2 { dirty with acc := 30 } (fun t => t.acc == 45 && t.step == 8) = true := by decide

/-- L2.7, L2.8: the fourth channel makes 60, and its scale is 255. -/
theorem test_tickMix3Final : runs .tickMix3Final dirty (fun t => t.acc == 60 && t.sample == 255 && t.step == 0 &&
    t.result == .bool true) = true := by decide

theorem test_tickReserved : refuses (exec (.tickReserved 9) demo) .badTickState = true := by decide

/-- L2.1: single steps. -/
theorem test_lfsr4Step : runs .lfsr4Step dirty (fun t => t.lfsr4 == 1) = true ∧ runs .lfsr4Step demo (fun t => t.lfsr4 == 0xE) = true := by
  decide

/-- L2.1. -/
theorem test_lfsr5Step : runs .lfsr5Step dirty (fun t => t.lfsr5 == 1) = true ∧
    runs .lfsr5Step { demo with lfsr5 := 0x11 } (fun t => t.lfsr5 == 0x03) = true := by decide

/-- L2.1. -/
theorem test_lfsr9Step : runs .lfsr9Step dirty (fun t => t.lfsr9 == 1) = true ∧
    runs .lfsr9Step { demo with lfsr9 := 0x1E0 } (fun t => t.lfsr9 == 0x1C1) = true := by decide

/-- L2.1: tap 13 set, tap 16 clear; and the other way round. -/
theorem test_lfsr17Step : runs .lfsr17Step dirty (fun t => t.lfsr17 == 0x04001) = true ∧
    runs .lfsr17Step { demo with lfsr17 := 0x10000 } (fun t => t.lfsr17 == 0x00001) = true := by decide

/-- L2.3, rows 3 and 1. -/
theorem test_timerStep : runs (.timerStep 0) (channelZero ⟨10, 0, false⟩ 0) (fun t => t.ch[0] == ⟨10, 255, false⟩) = true ∧
    runs (.timerStep 0) (channelZero ⟨10, 1, false⟩ 0) (fun t => t.ch[0] == ⟨10, 10, true⟩) = true := by decide

/-- L2.3, row 3 under SATURATE, and row 8. -/
theorem test_timerStep_saturate :
    runs (.timerStep 0) { channelZero ⟨10, 0, false⟩ 0 with cfg := { demo.cfg with timerUnderflow := .saturate } }
      (fun t => t.ch[0] == ⟨10, 10, true⟩) = true ∧
    runs (.timerStep 0) (channelZero ⟨9, 5, false⟩ 0x10) (fun t => t.ch[0] == ⟨9, 5, true⟩) = true := by decide

/-- L2.7: mode 0 at noise index 10 and 0. -/
theorem test_mixStep :
    runs (.mixStep 0) (noiseAt (channelZero ⟨0, 0, true⟩ 0x0F) false true false true) (fun t => t.acc == 15) = true ∧
    runs (.mixStep 0) (noiseAt (channelZero ⟨0, 0, true⟩ 0x0F) false false false false) (fun t => t.acc == 0) = true := by decide

/-- L2.7: a muted channel in mode 0 at noise index 0, gated and not gated. -/
theorem test_mixStep_muted :
    runs (.mixStep 0) (noiseAt (channelZero ⟨0, 0, true⟩ 0x18) false false false false) (fun t => t.acc == 0) = true ∧
    runs (.mixStep 0) { noiseAt (channelZero ⟨0, 0, true⟩ 0x18) false false false false with
      cfg := { demo.cfg with muteGated := false } } (fun t => t.acc == 8) = true := by decide

/-- L2.4: the counters are reloaded and no register is written. -/
theorem test_stimerReload : runs (.stimerReload 0x42) dirty (fun t => t.regs == dirty.regs &&
    t.ch == #v[⟨10, 10, true⟩, ⟨0, 0, true⟩, ⟨255, 255, true⟩, ⟨1, 1, true⟩]) = true := by decide

/-- A placed word is what the next step runs. -/
theorem test_step_placed : steps (demo.withFetchWord 26 0x02B0460) (fun t => t.regs[0] == 0x0A && t.inputs == []) = true ∧
    steps (demo.withFetchWord 16 0x18FF) (fun t => t.regs[8] == 0xFF) = true := by decide

/-- L2.14: a window that is not aligned, one that is not below the ROM region, and a table whose row 5 has a 0. -/
theorem test_step_badConfig :
    refuses (step { demo with cfg := { demo.cfg with regWindowBase := 0x0468 } }) .badConfig = true ∧
    refuses (step { demo with cfg := { demo.cfg with regWindowBase := 0x4000 } }) .badConfig = true ∧
    refuses (step { demo with cfg := { demo.cfg with dist := demo.cfg.dist.set 5 (.ofMask 0xFFF7) } }) .badConfig = true := by decide

/-- L1.1: the lookup inside the image, below the region, and above a shorter image. -/
theorem test_romByte : romByte demo 0x5000 = 0x10 ∧ romByte demo 0x3FFF = 0xFF ∧
    romByte { demo with cfg := { demo.cfg with romSize := 0x1000 } } 0x5000 = 0xFF := by decide

/-- Reset's memory is canonical, and a placed byte is read back. -/
theorem test_rom_image : State.reset.rom.wf 49152 = true ∧ demo.rom.wf 49152 = true ∧
    ((demo.placeRom 5 0x22).rom.read 5 = 0x22) ∧ (demo.placeRom 0x1000 0xFF).rom.wf 49152 = true := by decide

/-! ### Witnesses: a state and operands that meet the hypotheses of each statement together, one for each clause, at the ends
of its range -/

/-- `demo` with other parameters. -/
def withCfg (f : Params → Params) : State := { demo with cfg := f demo.cfg }

theorem test_hyp_reset : ∃ t t', exec .reset demo = .next t ∧ exec .reset dirty = .next t' := ⟨_, _, rfl, rfl⟩

theorem test_hyp_storageWrites : 10 ≤ (10 : BitVec 4).toNat ∧ 10 ≤ (15 : BitVec 4).toNat := by decide

theorem test_hyp_lfsrBijections :
    (∃ t t', exec .lfsr4Step demo = .next t ∧ exec .lfsr4Step dirty = .next t') ∧
    (∃ t t', exec .lfsr5Step demo = .next t ∧ exec .lfsr5Step dirty = .next t') ∧
    (∃ t t', exec .lfsr9Step demo = .next t ∧ exec .lfsr9Step dirty = .next t') ∧
    ∃ t t', exec .lfsr17Step demo = .next t ∧ exec .lfsr17Step dirty = .next t' :=
  ⟨⟨_, _, rfl, rfl⟩, ⟨_, _, rfl, rfl⟩, ⟨_, _, rfl, rfl⟩, ⟨_, _, rfl, rfl⟩⟩

theorem test_hyp_shortGenerators : demo.lfsr4 = 0xF ∧ 0 < 14 ∧ 14 < 15 ∧ demo.lfsr5 = 0x1F ∧ 30 < 31 ∧
    demo.lfsr9 = 0x1FF ∧ 510 < 511 := by decide

theorem test_hyp_longGenerator : demo.lfsr17 = 0x1FFFF := rfl

theorem test_hyp_noiseIndex : 0 < dirty.step.toNat ∧ dirty.step.toNat ≤ 8 ∧
    0 < { demo with step := 1 }.step.toNat ∧ { demo with step := 1 }.step.toNat ≤ 8 := by decide

theorem test_hyp_noiseMoves : ∃ t, exec .tickStep0 demo = .next t ∧ t.lfsr4 ≠ demo.lfsr4 := ⟨_, rfl, by decide⟩

theorem test_hyp_channelInverts :
    (demo.regs[1]).getLsbD 4 = false ∧ demo.ch[0].counter = demo.ch[0].divisor ∧ demo.ch[0].divisor = 0 ∧ 255 < 256 ∧
    ((channelZero ⟨10, 10, false⟩ 0).regs[1]).getLsbD 4 = false ∧
    (channelZero ⟨10, 10, false⟩ 0).ch[0].counter = (channelZero ⟨10, 10, false⟩ 0).ch[0].divisor ∧
    9 < (channelZero ⟨10, 10, false⟩ 0).ch[0].divisor.toNat := by decide

theorem test_hyp_advance : 8 < { demo with step := 9 }.step.toNat ∧ dirty.step.toNat ≤ 8 ∧ demo.step.toNat ≤ 8 := by decide

theorem test_hyp_finalTick : ∃ u, exec (.mixStep 3) dirty = .next u ∧ u.acc.toNat ≤ 60 := ⟨_, rfl, by decide⟩

theorem test_hyp_mixStep :
    { channelZero ⟨0, 0, true⟩ 0xAF with acc := 240 }.acc.toNat ≤ 240 ∧ (channelZero ⟨0, 0, true⟩ 0xAF).ch[0].out = true ∧
    distTable demo.cfg (BitVec.ofNat 3 (0xAF / 32)) (noiseIndex (channelZero ⟨0, 0, true⟩ 0xAF)) = true ∧
    ¬ (channelZero ⟨0, 0, false⟩ 0xAF).ch[0].out = true := by decide

theorem test_hyp_pureModes : paramsValid demo.cfg = true ∧ (5 : BitVec 3).toNat = 5 ∧ (7 : BitVec 3).toNat = 7 ∧
    (4 : BitVec 3).toNat ≠ 5 ∧ (4 : BitVec 3).toNat ≠ 7 ∧ (6 : BitVec 3).toNat ≠ 5 ∧ (6 : BitVec 3).toNat ≠ 7 := by decide

theorem test_hyp_ninthAdvance : demo.step = 0 ∧ 0 < 1 ∧ 8 < 9 := by decide

theorem test_hyp_noteElapsed :
    demo.lastSampled < 2 ^ demo.cfg.cycleBits ∧ 0xFFFFFFFF < 2 ^ demo.cfg.cycleBits ∧ demo.cfg.schedCatchup = .all ∧
    (withCfg fun p => { p with schedCatchup := .once }).cfg.schedCatchup = .once ∧
    demo.cfg.schedPeriod ≤ elapsedCount 32 0 100 ∧ elapsedCount 32 0 99 < demo.cfg.schedPeriod := by decide

theorem test_hyp_phase : dirty.cfg.schedCatchup = .all ∧ 1 ≤ dirty.cfg.schedPeriod ∧ dirty.debt ≤ dirty.cfg.debtMax ∧
    dirty.lastSampled < 2 ^ dirty.cfg.cycleBits ∧ 1350 < 2 ^ dirty.cfg.cycleBits := by decide

theorem test_hyp_exactPeriods : 1 ≤ demo.cfg.schedPeriod ∧ demo.debt ≤ demo.cfg.debtMax ∧
    demo.lastSampled < 2 ^ demo.cfg.cycleBits ∧ 99 < 2 ^ demo.cfg.cycleBits ∧
    elapsedCount demo.cfg.cycleBits demo.lastSampled 99 < demo.cfg.schedPeriod ∧
    elapsedCount demo.cfg.cycleBits demo.lastSampled 99 + demo.cfg.schedPeriod * 3 < 2 ^ demo.cfg.cycleBits ∧
    demo.cfg.schedCatchup = .all ∧ (withCfg fun p => { p with schedCatchup := .once }).cfg.schedCatchup = .once := by decide

theorem test_hyp_consume : 0 < { demo with debt := 1 }.debt ∧ demo.debt = 0 := by decide

theorem test_hyp_romByte : 49151 < demo.cfg.romSize ∧ (0xFFFF : Addr).toNat = demo.cfg.romBase.toNat + 49151 ∧
    (0x3FFF : Addr).toNat < demo.cfg.romBase.toNat ∧
    (withCfg fun p => { p with romSize := 0x1000 }).cfg.romBase.toNat + 0x1000 ≤ (0x5000 : Addr).toNat := by decide

theorem test_hyp_romIteration : demo.cfg.romBase.toNat ≤ (sampleOf 0x4000 0 true false).addr.toNat ∧
    demo.cfg.romBase.toNat ≤ (sampleOf 0x4461 0 true true).addr.toNat ∧
    (demo.cfg.glitchFilter = true → (0 : Addr) = 0x4000) ∧ demo.cfg.accountPolicy ≠ .everyIteration ∧
    (withCfg fun p => { p with accountPolicy := .everyIteration }).cfg.accountPolicy = .everyIteration := by decide

theorem test_hyp_glitch : (withCfg fun p => { p with glitchFilter := true }).cfg.glitchFilter = true ∧
    (0x4460 : Addr) ≠ (sampleOf 0x0460 0x33 true true).addr ∧ demo.cfg.glitchFilter = false := by decide

theorem test_hyp_dmaIteration : (sampleOf 0x3FFF 0 false true).addr.toNat < demo.cfg.romBase.toNat ∧
    (sampleOf 0x3FFF 0 false true).cpuActive = false ∧ (demo.cfg.glitchFilter = true → (0 : Addr) = 0x3FFF) ∧
    demo.cfg.accountPolicy = .lowCpuActive ∧
    (withCfg fun p => { p with accountPolicy := .lowAny }).cfg.accountPolicy ≠ .lowCpuActive := by decide

theorem test_hyp_sniff : classify dirty.cfg (sampleOf 0x0460 0x0A true true) = .regWrite ∧
    classify dirty.cfg (sampleOf 0x046F 0x77 true true) = .regWrite ∧
    (dirty.cfg.glitchFilter = true → (0 : Addr) = 0x0460) ∧ dirty.step.toNat ≤ 8 := by decide

/-- Both ways of the clause on the debt: nothing owed, and a unit owed. -/
theorem test_hyp_activeIteration : classify demo.cfg (sampleOf 0x3FFF 0 true false) = .lowActive ∧
    (demo.cfg.glitchFilter = true → (0 : Addr) = 0x3FFF) ∧ demo.step.toNat ≤ 8 ∧
    runs (.noteElapsed 99) demo (fun t => t.debt == 0) = true ∧ runs (.noteElapsed 100) demo (fun t => t.debt == 1) = true := by
  decide

theorem test_hyp_classes : paramsValid demo.cfg = true ∧ classify demo.cfg (sampleOf 0x0460 0 true true) = .regWrite ∧
    classify demo.cfg (sampleOf 0xFFFF 0 false true) = .rom ∧ classify demo.cfg (sampleOf 0x045F 0 true true) = .lowActive ∧
    classify demo.cfg (sampleOf 0x0460 0 false true) = .lowDma := by decide

theorem test_hyp_iterations : (∃ t, exec (.busIterate (sampleOf 0x0460 0x0A true true) 120 0) dirty = .next t) ∧
    (∃ t, exec (.busIterate (sampleOf 0x4000 0 true false) 120 0) dirty = .next t) ∧
    dirty.debt ≤ dirty.cfg.debtMax ∧ dirty.cfg.romBase.toNat ≤ (sampleOf 0x4000 0 true false).addr.toNat ∧
    (dirty.cfg.glitchFilter = true → (0 : Addr) = 0x0460) := ⟨⟨_, rfl⟩, ⟨_, rfl⟩, by decide, by decide, by decide⟩

theorem test_hyp_dataByte : classify demo.cfg (sampleOf 0x0460 0x77 false true) ≠ .regWrite := by decide

theorem test_hyp_running : demo.refused = none ∧ paramsValid demo.cfg = true ∧ demo.step.toNat ≤ 8 ∧ demo.inputs = [] := by decide

theorem test_hyp_placedBus : (demo.withFetchWord 26 0x02B0460).refused = none ∧
    (demo.withFetchWord 26 0x02B0460).inputs = .bus 0x02B0460 0 0 :: [] := by decide

theorem test_hyp_blockReset : 5000 < 2 ^ demo.cfg.cycleBits ∧ 0xFFFFFFFF < 2 ^ demo.cfg.cycleBits := by decide

theorem test_hyp_wellFormed : WellFormed demo.cfg (.busRegWrite (sampleOf 0x0460 0x0A true true) 120 0) = true := by decide

theorem test_hyp_decoded : decode demo.cfg (.cmd 0x1AFF 0 0 0) = .ok (.writePlain 10 0xFF) ∧
    decode demo.cfg (.bus 0x02B0460 0x100000001 7) = .ok (.busRegWrite (sampleOf 0x0460 0x0A true true) 1 7) ∧
    decode demo.cfg (.tick 15) = .ok (.tickReserved 15) ∧ decode demo.cfg (.noise 3) = .ok .lfsr17Step ∧
    decode demo.cfg (.timer 3) = .ok (.timerStep 3) ∧ decode demo.cfg (.mix 3) = .ok (.mixStep 3) := by decide

theorem test_hyp_reservedEncodings : 8 ≤ (0x8000 : BitVec 16).toNat / 4096 ∧ 8 ≤ (0xFFFF : BitVec 16).toNat / 4096 ∧
    (0x7001 : BitVec 16).toNat / 4096 < 8 ∧ (0x7001 : BitVec 16).toNat / 4096 ≠ 1 ∧ (0x7001 : BitVec 16).toNat % 4096 ≠ 0 ∧
    (0x0100 : BitVec 16).toNat / 4096 < 8 ∧ (0x0100 : BitVec 16).toNat / 4096 ≠ 1 ∧ (0x0100 : BitVec 16).toNat % 4096 ≠ 0 ∧
    9 ≤ (9 : BitVec 4).toNat ∧ 9 ≤ (15 : BitVec 4).toNat := by decide

theorem test_hyp_stepRuns : (demo.withFetchWord 16 0x2000).inputs = .cmd 0x2000 0 0 0 :: [] ∧
    decode (demo.withFetchWord 16 0x2000).cfg (.cmd 0x2000 0 0 0) = .ok .advance ∧
    (demo.withFetchWord 16 0x2000).refused = none := by decide

theorem test_hyp_refusedStates : { demo with refused := some .reservedBits }.refused = some Refusal.reservedBits ∧
    paramsValid (withCfg fun p => { p with schedPeriod := 0 }).cfg = false ∧ 8 < { demo with step := 9 }.step.toNat := by decide

theorem test_hyp_refusal : step (demo.withFetchWord 16 0x8000) = .refused .reservedOp := rfl

theorem test_hyp_marks : ∃ t, exec .reset { dirty with faulted := [.hostWriteInRomRegion] } = .next t ∧
    Fault.hostWriteInRomRegion ∈ { dirty with faulted := [.hostWriteInRomRegion] }.faulted := ⟨_, rfl, by decide⟩

theorem test_hyp_invariant : BlockInv (demo.withFetchWord 16 0x2000) ∧ ∃ t, step (demo.withFetchWord 16 0x2000) = .next t :=
  ⟨⟨by decide, by decide, by decide, by decide, by decide, by decide, by decide, by decide, by decide, by decide⟩, ⟨_, rfl⟩⟩

/-- The accumulator and sample at the top of their ranges. -/
theorem test_hyp_tidy : Tidy ({ dirty with acc := 45, sample := 255 }.withFetchWord 16 0x2000) ∧
    ∃ t, step ({ dirty with acc := 45, sample := 255 }.withFetchWord 16 0x2000) = .next t :=
  ⟨⟨by decide, by decide, ⟨60, by decide, by decide⟩⟩, ⟨_, rfl⟩⟩

end Sys2Proof.Tests
end

section
/-!
The scope of the block (spec/00_scope.md): a step is one operation on the oldest placed input (R10), and the state after
reset (R43) meets the invariants and the constraints on the parameters (R8).
-/
namespace Sys2Proof.Machine

/-! ### When a step runs an instruction -/

/-- The states that R233 does not refuse. -/
theorem stateRefusal_eq_none_iff (s : State) :
    stateRefusal s = none ↔ s.refused = none ∧ paramsValid s.cfg = true ∧ s.step.toNat ≤ 8 := by
  unfold stateRefusal
  cases s.refused with
  | some r => simp
  | none => cases paramsValid s.cfg <;> simp [badTick]

theorem fetch_of_inputs_cons {s : State} {x : Input} {rest : List Input} (h : s.inputs = x :: rest) :
    fetch s = (x, { s with inputs := rest }) := by
  simp only [fetch, h]

theorem step_eq_exec_of_decode {s : State} {i : Instr} (hs : stateRefusal s = none)
    (hd : decode (fetch s).2.cfg (fetch s).1 = .ok i) : step s = exec i (fetch s).2 := by
  simp only [step, hs, hd]

/-- Settles O53: no reason of R233 refuses the state, and what is fetched is the oldest placed input. -/
theorem stepRunsDecodedInstruction : Obligations.StepRunsDecodedInstruction := by
  intro s x rest i hmark hparams htick hinputs hdecode
  have hs : stateRefusal s = none := (stateRefusal_eq_none_iff s).mpr ⟨hmark, hparams, htick⟩
  have hfetch := fetch_of_inputs_cons hinputs
  have hstep := step_eq_exec_of_decode (i := i) hs (by rw [hfetch]; exact hdecode)
  rwa [hfetch] at hstep

/-! ### The state after reset -/

/-- The phase is cut to the counter's 32 bits, whatever value the counter starts at (R35, R261). -/
theorem State.reset_lastSampled_lt : State.reset.lastSampled < 2 ^ State.reset.cfg.cycleBits :=
  Nat.mod_lt _ (Nat.two_pow_pos 32)

theorem State.reset_divisor (c : Chan) : State.reset.ch[c].divisor = State.reset.regs[2 * c.val] := by
  simp [State.reset]

theorem blockInv_reset : BlockInv State.reset where
  divisors := State.reset_divisor
  lfsr4 := by decide
  lfsr5 := by decide
  lfsr9 := by decide
  lfsr17 := by decide
  tick := by decide
  debtBound := by decide
  phase := State.reset_lastSampled_lt
  rom := State.reset_rom_wf
  faultsOnce := List.nodup_nil

/-- The sample after reset is the scale of the sum 0. -/
theorem tidy_reset : Tidy State.reset where
  interface := fun _ hx => absurd hx List.not_mem_nil
  acc := by decide
  sample := ⟨0, Nat.zero_le 60, rfl⟩

/-- R160 holds for every choice of the six rows it leaves open. -/
theorem distValid_atReset : distValid Params.atReset.dist = true := rfl

/-- R8 holds for every scheduler period of reset: it is one more than a free value. -/
theorem paramsValid_atReset : paramsValid Params.atReset = true := by
  have hperiod : 1 ≤ Params.atReset.schedPeriod := Nat.le_add_left 1 Config.periodBelow
  simp only [paramsValid, distValid_atReset, hperiod]
  decide

/-- Settles O58, field by field. -/
theorem resetMeetsInvariants : Obligations.ResetMeetsInvariants :=
  ⟨blockInv_reset, tidy_reset, paramsValid_atReset⟩

end Sys2Proof.Machine
end

section
/-!
The state of the block (spec/10_state.md): what no instruction changes (R42, R64, R232), what every step keeps (R26, R29, R30,
R31, R34, R35, R164), and the state after power-on (R43, R261).
-/
namespace Sys2Proof.Machine

/-! ### Power-on -/

/-- Settles O45: the phase of reset is already cut to the counter's width, so a BLOCK_RESET at that count changes nothing. -/
theorem powerOnIsBlockReset : Obligations.PowerOnIsBlockReset := by
  have hphase : wrapCycles State.reset.cfg State.reset.lastSampled = State.reset.lastSampled :=
    Nat.mod_eq_of_lt State.reset_lastSampled_lt
  have hreset : blockReset State.reset.lastSampled State.reset = State.reset :=
    congrArg (fun phase => { State.reset with lastSampled := phase }) hphase
  refine ⟨by simp [State.reset], by simp [State.reset], rfl, rfl, rfl, rfl, rfl, rfl, rfl, rfl, rfl,
    State.reset.lastSampled, State.reset_lastSampled_lt, rfl, ?_⟩
  exact congrArg (fun s => Host.Outcome.next (s.returning .unit)) hreset

/-! ### What one iteration on the bus does -/

/-- The states that one iteration on the sample `b` at count `T` can lead to: it is discarded (R205), or it runs the ROM path
(R211), the LOW path without the host CPU, or the LOW path with it and without or with the sniff (R212, R213). -/
inductive BusEffect (b : BusSample) (T : Nat) (s : State) : State → Prop
  | discarded : BusEffect b T s (s.returning .unit)
  | rom : BusEffect b T s ((romPath b T s).returning .unit)
  | dma : BusEffect b T s ((enterLow T s).returning .unit)
  | active : BusEffect b T s ((paySynthesis (lowAccount T s)).returning .unit)
  | sniffed : BusEffect b T s ((paySynthesis (sniff b (lowAccount T s))).returning .unit)

theorem BusEffect.of_lowActivePath {b : BusSample} {T : Nat} {s t : State} {sniffed : Bool}
    (h : lowActivePath sniffed b T s = .next t) : BusEffect b T s t := by
  obtain ⟨rfl, -⟩ := synthesis_cases h
  cases sniffed
  · exact .active
  · exact .sniffed

/-- An iteration that the glitch filter may discard runs a path only where it does not (R205). -/
theorem BusEffect.of_discarded_or {b : BusSample} {T : Nat} {s t : State} {c : Bool}
    {o : Host.Outcome State Fault Refusal} (h : (if c then .next (s.returning .unit) else o) = .next t)
    (ho : o = .next t → BusEffect b T s t) : BusEffect b T s t := by
  cases c
  · exact ho h
  · cases h
    exact .discarded

/-- BUS_ITERATE and its four classes all run one iteration (R210). -/
theorem BusEffect.of_exec {i : Instr} {s t : State} (b : BusSample) (T : Nat) (a2 : Addr)
    (hi : i = .busIterate b T a2 ∨ i = .busRom b T a2 ∨ i = .busRegWrite b T a2 ∨ i = .busLowActive b T a2 ∨
      i = .busLowDma b T a2) (h : exec i s = .next t) : BusEffect b T s t := by
  rcases hi with rfl | rfl | rfl | rfl | rfl
  · refine .of_discarded_or h fun h => ?_
    split at h
    · cases h
      exact .rom
    · split at h
      · cases h
        exact .dma
      · exact .of_lowActivePath h
  · obtain rfl := Host.Outcome.next.inj h
    split
    · exact .discarded
    · exact .rom
  · exact .of_discarded_or h .of_lowActivePath
  · exact .of_discarded_or h .of_lowActivePath
  · obtain rfl := Host.Outcome.next.inj h
    split
    · exact .discarded
    · exact .dma

/-! ### What no instruction changes -/

/-- `t` retains what no instruction may alter or take away from `s`: the parameters, the image, the refusal mark and the
queue as they are, and the events and the fault marks that are there (R42, R64, R232, R260). -/
structure Retains (s t : State) : Prop where
  cfg : t.cfg = s.cfg
  rom : t.rom = s.rom
  refused : t.refused = s.refused
  inputs : t.inputs = s.inputs
  events : s.events <+: t.events
  faults : s.faulted ⊆ t.faulted

theorem paySynthesis_events_prefix (s : State) : s.events <+: (paySynthesis s).events := by
  rcases paySynthesis_cases s with ⟨-, h⟩ | ⟨-, -, h⟩ | ⟨-, -, h⟩ <;> rw [h]
  · simp
  · simp [emitOutput]

theorem romPath_faulted_subset (b : BusSample) (T : Nat) (s : State) : s.faulted ⊆ (romPath b T s).faulted := by
  rw [romPath_faulted]
  split
  · exact List.subset_append_left ..
  · exact List.Subset.refl _

theorem BusEffect.retains {b : BusSample} {T : Nat} {s t : State} (h : BusEffect b T s t) : Retains s t := by
  cases h with
  | discarded => constructor <;> simp
  | rom => constructor <;> simp [romPath_faulted_subset]
  | dma => constructor <;> simp
  | active =>
    have hevents := paySynthesis_events_prefix (lowAccount T s)
    rw [lowAccount_events] at hevents
    constructor <;> simp [(List.prefix_append ..).trans hevents]
  | sniffed =>
    have hevents := paySynthesis_events_prefix (sniff b (lowAccount T s))
    rw [sniff_events, lowAccount_events] at hevents
    constructor <;> simp [(List.prefix_append ..).trans hevents]

theorem execAdvance_next {s t : State} (h : execAdvance s = .next t) :
    t = (advanceOneStep s).1.returning (.bool (advanceOneStep s).2) := by
  unfold execAdvance at h
  split at h
  · cases h
  · cases h
    rfl

/-- No instruction writes the parameters, the image, the refusal mark or the queue, and events and marks are only added. -/
theorem exec_retains {i : Instr} {s t : State} (h : exec i s = .next t) : Retains s t := by
  cases i with
  | reset | writeDiv | writeCtl | writeReg8 | writeStimer | writePlain | currentOutput | blockReset | stimerReload =>
    cases h
    exact ⟨rfl, rfl, rfl, rfl, List.prefix_refl _, List.Subset.refl _⟩
  | noteElapsed | consume | tickStep0 | tickTimer0 | tickTimer1 | tickTimer2 | tickTimer3 | tickMix0 | tickMix1 | tickMix2
  | tickMix3Final | lfsr4Step | lfsr5Step | lfsr9Step | lfsr17Step | timerStep | mixStep =>
    cases h
    constructor <;> simp
  | advance =>
    obtain rfl := execAdvance_next h
    constructor <;> simp
  | busIterate b T a2 | busRom b T a2 | busRegWrite b T a2 | busLowActive b T a2 | busLowDma b T a2 =>
    exact (BusEffect.of_exec b T a2 (by simp) h).retains
  | reservedOp | tickReserved => cases h

/-- Settles O57: the bytes the block can drive depend on the image and the parameters alone. -/
theorem imageAndMarksSurviveEveryInstruction : Obligations.ImageAndMarksSurviveEveryInstruction := by
  intro i s t h
  obtain ⟨hcfg, hrom, hrefused, hinputs, ⟨es, hes⟩, hfaults⟩ := exec_retains h
  exact ⟨hcfg, hrom, romByte_congr hrom hcfg, hrefused, hinputs, ⟨es, hes.symm⟩, fun _ hf => hfaults hf⟩

/-! ### What a step runs -/

/-- A step runs what the fetched input decodes to, in the state without it, and only where R233 refuses nothing. -/
theorem step_cases {s t : State} (h : step s = .next t) :
    stateRefusal s = none ∧ ∃ i, decode (fetch s).2.cfg (fetch s).1 = .ok i ∧ exec i (fetch s).2 = .next t := by
  unfold step at h
  split at h
  · cases h
  · next hs =>
    split at h
    · next i hi => exact ⟨hs, i, hi, h⟩
    · cases h

theorem decodeUnused_eq_ok {w : BitVec 16} {i j : Instr} (h : decodeUnused w j = .ok i) : i = j := by
  unfold decodeUnused at h
  split at h <;> cases h
  rfl

/-- The instructions of the CMD words, the classes of WRITE_REG left as `decodeWrite` gives them (R86, R89). -/
theorem decodeCmd_cases {p : Params} {w : BitVec 16} {bus : BitVec 26} {T : Nat} {a2 : Addr} {i : Instr}
    (h : decodeCmd p w bus T a2 = .ok i) :
    i ∈ [.reset, .advance, .currentOutput, .consume] ∨ (∃ idx v, i = decodeWrite idx v) ∨
    i = .noteElapsed (cycleOperand p T) ∨ i = .busIterate (busOfWord bus) (cycleOperand p T) a2 ∨
    i = .blockReset (cycleOperand p T) ∨ ∃ low, i = .reservedOp low := by
  unfold decodeCmd at h
  split at h
  case h_2 =>
    cases h
    exact .inr (.inl ⟨_, _, rfl⟩)
  case h_9 =>
    cases h
    simp
  all_goals simp [decodeUnused_eq_ok h]

/-- The classes of register writes (R86). -/
theorem decodeWrite_cases (idx : BitVec 4) (v : Byte) :
    decodeWrite idx v = .writeReg8 v ∨ decodeWrite idx v = .writeStimer v ∨
    (10 ≤ idx.toNat ∧ decodeWrite idx v = .writePlain idx v) ∨
    ∃ c, decodeWrite idx v = .writeCtl c v ∨ decodeWrite idx v = .writeDiv c v := by
  unfold decodeWrite
  split
  · next h3 =>
    split
    · exact .inl rfl
    · next h8 =>
      split
      · exact .inr (.inl rfl)
      · next h9 =>
        refine .inr (.inr (.inl ⟨?_, rfl⟩))
        revert idx
        decide
  · split
    · exact .inr (.inr (.inr ⟨_, .inl rfl⟩))
    · exact .inr (.inr (.inr ⟨_, .inr rfl⟩))

theorem cycleFits_cycleOperand (p : Params) (T : Nat) : cycleFits p (cycleOperand p T) = true :=
  decide_eq_true (Nat.mod_lt T (Nat.two_pow_pos _))

theorem decodeWrite_wellFormed (p : Params) (idx : BitVec 4) (v : Byte) : WellFormed p (decodeWrite idx v) = true := by
  rcases decodeWrite_cases idx v with h | h | ⟨hidx, h⟩ | ⟨c, h | h⟩ <;> rw [h]
  case inr.inr.inl => exact decide_eq_true hidx
  all_goals rfl

theorem decodeCmd_wellFormed {p : Params} {w : BitVec 16} {bus : BitVec 26} {T : Nat} {a2 : Addr} {i : Instr}
    (h : decodeCmd p w bus T a2 = .ok i) : WellFormed p i = true := by
  rcases decodeCmd_cases h with hi | ⟨idx, v, rfl⟩ | rfl | rfl | rfl | ⟨low, rfl⟩
  · fin_cases hi <;> rfl
  · exact decodeWrite_wellFormed p idx v
  · exact cycleFits_cycleOperand p T
  · exact cycleFits_cycleOperand p T
  · exact cycleFits_cycleOperand p T
  · rfl

theorem decodeBus_wellFormed (p : Params) (b : BusSample) (T : Nat) (a2 : Addr) :
    WellFormed p (decodeBus p b (cycleOperand p T) a2) = true := by
  have hT := cycleFits_cycleOperand p T
  unfold decodeBus
  split <;> simp [WellFormed, *]

theorem decodeTick_wellFormed (p : Params) (w : BitVec 4) : WellFormed p (decodeTick w) = true := by
  unfold decodeTick
  split
  case h_10 =>
    simp only [imp_false] at *
    exact decide_eq_true (by omega)
  all_goals rfl

theorem decodeNoise_wellFormed (p : Params) (w : BitVec 2) : WellFormed p (decodeNoise w) = true := by
  unfold decodeNoise
  split <;> rfl

/-- What the decoder gives is in the operand ranges of the encodings; for a WRITE_PLAIN this keeps its index off the divisor
registers (R21, R86). -/
theorem decode_wellFormed {p : Params} {x : Input} {i : Instr} (h : decode p x = .ok i) : WellFormed p i = true := by
  cases x with
  | cmd => exact decodeCmd_wellFormed h
  | bus =>
    cases h
    exact decodeBus_wellFormed ..
  | tick =>
    cases h
    exact decodeTick_wellFormed ..
  | noise =>
    cases h
    exact decodeNoise_wellFormed ..
  | timer | mix | reload =>
    cases h
    rfl

/-! ### The invariant: the parts of the state that move -/

/-- An index with bit 3 or bit 0 set names no divisor register (R21). -/
theorem ne_divisor_index {idx : BitVec 4} (h : (idx.getLsbD 3 || idx.getLsbD 0) = true) (c : Chan) :
    idx.toNat ≠ 2 * c.val := by
  revert idx c
  decide

theorem ctlIndex_ne_divisor_index (c d : Chan) : (ctlIndex c).toNat ≠ 2 * d.val := by
  revert c d
  decide

theorem divIndex_toNat (c : Chan) : (divIndex c).toNat = 2 * c.val := by
  revert c
  decide

/-- A generator that feeds its top bit back does not reach the all-zero state (R105): without the top bit the state shifts,
and with it alone the feedback is 1. -/
theorem lfsrStep_ne_zero {n b : Nat} {v : BitVec (n + 1)} (hb : b < n) (hv : v ≠ 0) : lfsrStep n b v ≠ 0 := by
  intro h
  have hbit : ∀ i, (lfsrStep n b v).getLsbD i = false := by simp [h]
  have hlow : ∀ i < n, v.getLsbD i = false := by
    intro i hi
    change v[i] = false
    simpa [lfsrStep, hi] using hbit (i + 1)
  have htop : v.getLsbD n = false := by
    simpa [lfsrStep, hlow b hb] using hbit 0
  refine hv (BitVec.eq_of_getLsbD_eq fun i hi => ?_)
  rcases Nat.lt_succ_iff_lt_or_eq.mp hi with hi | rfl
  · simpa using hlow i hi
  · simpa using htop

@[simp] theorem timerChannel_divisor (u : TimerUnderflow) (mute : Bool) (x : Channel) :
    (timerChannel u mute x).divisor = x.divisor := by
  unfold timerChannel forceHigh reloadAtZero
  split
  · rfl
  · split <;> rfl

theorem tickTimer_step_le (c : Chan) (s : State) : (tickTimer c s).step.toNat ≤ 8 := by
  rw [tickTimer_step]
  revert c
  decide

theorem tickMix_step_le {c : Chan} (hc : c.val ≤ 2) (s : State) : (tickMix c s).step.toNat ≤ 8 := by
  rw [tickMix_step]
  revert c
  decide

/-! ### The invariant: each operation keeps it -/

theorem mixStep_eq (c : Chan) (s : State) :
    mixStep c s = { s with acc := (mixStep c s).acc, fresh := (mixStep c s).fresh } := by
  ext1 <;> simp

theorem finalize_eq (s : State) :
    finalize s = { s with sample := (finalize s).sample, fresh := (finalize s).fresh } := by
  ext1 <;> simp

theorem noteElapsed_eq (t : Nat) (s : State) :
    noteElapsed t s = { s with debt := (noteElapsed t s).debt, lastSampled := (noteElapsed t s).lastSampled } := by
  ext1 <;> simp

theorem consumeOne_eq (s : State) : consumeOne s = { s with debt := s.debt - 1 } := by
  unfold consumeOne debtOwed
  split
  · rfl
  · next h =>
    have hd : s.debt - 1 = s.debt := by simp at h; omega
    rw [hd]

namespace BlockInv

variable {s t : State}

theorem returning (hs : BlockInv s) (r : Result) : BlockInv (s.returning r) := { hs with }

theorem emit (hs : BlockInv s) (e : Event) : BlockInv (s.emit e) := { hs with }

theorem setStep (hs : BlockInv s) {n : BitVec 4} (hn : n.toNat ≤ 8) : BlockInv { s with step := n } :=
  { hs with tick := hn }

theorem setDriving (hs : BlockInv s) (d : Bool) : BlockInv (s.setDriving d) := { hs with }

theorem engineReset (hs : BlockInv s) : BlockInv (engineReset s) :=
  { hs with
    divisors := by simp [Machine.engineReset]
    lfsr4 := (by decide : (0xF : BitVec 4) ≠ 0)
    lfsr5 := (by decide : (0x1F : BitVec 5) ≠ 0)
    lfsr9 := (by decide : (0x1FF : BitVec 9) ≠ 0)
    lfsr17 := (by decide : (0x1FFFF : BitVec 17) ≠ 0)
    tick := Nat.zero_le 8 }

theorem blockReset (hs : BlockInv s) (c0 : Nat) : BlockInv (blockReset c0 s) :=
  { hs.engineReset with
    debtBound := Nat.zero_le _
    phase := Nat.mod_lt _ (Nat.two_pow_pos _) }

theorem setReg (hs : BlockInv s) {idx : BitVec 4} (hidx : ∀ c : Chan, idx.toNat ≠ 2 * c.val) (v : Byte) :
    BlockInv (s.setReg idx v) :=
  { hs with
    divisors := fun c => by
      simpa [Vector.getElem_set_ne (h := hidx c)] using hs.divisors c }

theorem writeDiv (hs : BlockInv s) (c : Chan) (v : Byte) : BlockInv (writeDiv c v s) :=
  { hs with
    divisors := fun d => by
      have hd := hs.divisors d
      by_cases h : c = d
      · simp [Machine.writeDiv, setDivisor, divIndex_toNat, h]
      · have hval : c.val ≠ d.val := fun he => h (Fin.ext he)
        simpa [Machine.writeDiv, setDivisor, divIndex_toNat, Vector.getElem_set, hval] using hd }

theorem stimerReload (hs : BlockInv s) : BlockInv (stimerReload s) :=
  { hs with
    divisors := fun c => by
      refine .trans ?_ (hs.divisors c)
      fin_cases c <;> rfl }

theorem writeRegister (hs : BlockInv s) (idx : BitVec 4) (v : Byte) : BlockInv (writeRegister idx v s) := by
  unfold Machine.writeRegister
  split
  · exact (hs.setReg (ne_divisor_index rfl) v).stimerReload
  · split
    · next h3 => exact hs.setReg (ne_divisor_index (by simp [h3])) v
    · split
      · next h0 => exact hs.setReg (ne_divisor_index (by simp [h0])) v
      · exact hs.writeDiv _ v

theorem stepLfsr4 (hs : BlockInv s) : BlockInv (stepLfsr4 s) :=
  { hs with lfsr4 := lfsrStep_ne_zero (by decide) hs.lfsr4 }

theorem stepLfsr5 (hs : BlockInv s) : BlockInv (stepLfsr5 s) :=
  { hs with lfsr5 := lfsrStep_ne_zero (by decide) hs.lfsr5 }

theorem stepLfsr9 (hs : BlockInv s) : BlockInv (stepLfsr9 s) :=
  { hs with lfsr9 := lfsrStep_ne_zero (by decide) hs.lfsr9 }

theorem stepLfsr17 (hs : BlockInv s) : BlockInv (stepLfsr17 s) :=
  { hs with lfsr17 := lfsrStep_ne_zero (by decide) hs.lfsr17 }

theorem timerStep (hs : BlockInv s) (c : Chan) : BlockInv (timerStep c s) :=
  { hs with
    divisors := fun d => by
      rw [timerStep_regs, ← hs.divisors d]
      by_cases h : c = d
      · simp [Machine.timerStep, h]
      · have hval : c.val ≠ d.val := fun he => h (Fin.ext he)
        simp [Machine.timerStep, hval] }

theorem mixStep (hs : BlockInv s) (c : Chan) : BlockInv (mixStep c s) := by
  rw [mixStep_eq]
  exact { hs with }

theorem finalize (hs : BlockInv s) : BlockInv (finalize s) := by
  rw [finalize_eq]
  exact { hs with }

theorem tickZero (hs : BlockInv s) : BlockInv (tickZero s) :=
  { hs.stepLfsr4.stepLfsr5.stepLfsr9.stepLfsr17 with tick := by simp }

theorem tickTimer (hs : BlockInv s) (c : Chan) : BlockInv (tickTimer c s) :=
  (hs.timerStep c).setStep (tickTimer_step_le c s)

theorem tickMix (hs : BlockInv s) {c : Chan} (hc : c.val ≤ 2) : BlockInv (tickMix c s) :=
  (hs.mixStep c).setStep (tickMix_step_le hc s)

theorem tickFinal (hs : BlockInv s) : BlockInv (tickFinal s) :=
  (hs.mixStep 3).finalize.setStep (by decide)

theorem advanceOneStep (hs : BlockInv s) : BlockInv (advanceOneStep s).1 := by
  rcases advanceOneStep_cases s hs.tick with ⟨-, h⟩ | ⟨c, -, h⟩ | ⟨c, hc, -, h⟩ | ⟨-, h⟩ <;> rw [h]
  · exact hs.tickZero
  · exact hs.tickTimer c
  · exact hs.tickMix hc
  · exact hs.tickFinal

theorem noteElapsed (hs : BlockInv s) (T : Nat) : BlockInv (noteElapsed T s) := by
  have hdebt := noteElapsed_debt_le T s hs.debtBound
  have hphase := noteElapsed_phase T s hs.phase
  rw [noteElapsed_eq]
  exact { hs with debtBound := hdebt, phase := hphase }

theorem account (hs : BlockInv s) (ps : List AccountPolicy) (T : Nat) : BlockInv (account ps T s) := by
  rcases account_cases ps T s with ⟨-, h⟩ | ⟨-, h⟩ <;> rw [h]
  · exact hs.noteElapsed T
  · exact hs

theorem consumeOne (hs : BlockInv s) : BlockInv (consumeOne s) := by
  rw [consumeOne_eq]
  exact { hs with debtBound := (Nat.sub_le ..).trans hs.debtBound }

theorem markFault (hs : BlockInv s) (f : Fault) : BlockInv (s.markFault f) :=
  { hs with
    faultsOnce := by
      unfold State.markFault
      dsimp only
      split
      · exact hs.faultsOnce
      · next hf => exact hs.faultsOnce.append (List.nodup_singleton f) (by simpa using hf) }

theorem markHostWrite (hs : BlockInv s) (b : BusSample) : BlockInv (markHostWrite b s) := by
  unfold Machine.markHostWrite
  split
  · exact hs.markFault _
  · exact hs

theorem romPath (hs : BlockInv s) (b : BusSample) (T : Nat) : BlockInv (romPath b T s) :=
  (((hs.markHostWrite b).setDriving true).emit _).account _ T

theorem enterLow (hs : BlockInv s) (T : Nat) : BlockInv (enterLow T s) := by
  have hrelease : BlockInv (release s) := by
    rw [release_eq]
    exact { hs with }
  exact hrelease.account _ T

theorem lowAccount (hs : BlockInv s) (T : Nat) : BlockInv (lowAccount T s) := (hs.enterLow T).account _ T

theorem paySynthesis (hs : BlockInv s) : BlockInv (paySynthesis s) := by
  have hadvanced := hs.consumeOne.advanceOneStep
  unfold Machine.paySynthesis
  split
  · dsimp only
    split
    · exact hadvanced.emit _
    · exact hadvanced
  · exact hs

theorem busEffect (hs : BlockInv s) {b : BusSample} {T : Nat} (h : BusEffect b T s t) : BlockInv t := by
  cases h with
  | discarded => exact hs.returning _
  | rom => exact (hs.romPath b T).returning _
  | dma => exact (hs.enterLow T).returning _
  | active => exact (hs.lowAccount T).paySynthesis.returning _
  | sniffed => exact ((hs.lowAccount T).writeRegister _ _).paySynthesis.returning _

/-- Every instruction of the encodings keeps the invariant. -/
theorem exec (hs : BlockInv s) {p : Params} {i : Instr} (hi : WellFormed p i = true) (h : exec i s = .next t) :
    BlockInv t := by
  cases i with
  | busIterate b T a2 | busRom b T a2 | busRegWrite b T a2 | busLowActive b T a2 | busLowDma b T a2 =>
    exact hs.busEffect (BusEffect.of_exec b T a2 (by simp) h)
  | reservedOp | tickReserved => cases h
  | advance =>
    obtain rfl := execAdvance_next h
    exact hs.advanceOneStep.returning _
  | reset => cases h; exact hs.engineReset.returning _
  | writeDiv c v => cases h; exact (hs.writeDiv c v).returning _
  | writeCtl c v => cases h; exact (hs.setReg (ctlIndex_ne_divisor_index c) v).returning _
  | writeReg8 v => cases h; exact (hs.setReg (by decide) v).returning _
  | writeStimer v => cases h; exact (hs.setReg (by decide) v).stimerReload.returning _
  | writePlain idx v =>
    have hidx : 10 ≤ idx.toNat := of_decide_eq_true hi
    cases h; exact (hs.setReg (fun c => by omega) v).returning _
  | currentOutput => cases h; exact hs.returning _
  | noteElapsed T => cases h; exact (hs.noteElapsed T).returning _
  | consume => cases h; exact hs.consumeOne.returning _
  | blockReset c0 => cases h; exact (hs.blockReset c0).returning _
  | tickStep0 => cases h; exact hs.tickZero.returning _
  | tickTimer0 | tickTimer1 | tickTimer2 | tickTimer3 => cases h; exact (hs.tickTimer _).returning _
  | tickMix0 | tickMix1 | tickMix2 => cases h; exact (hs.tickMix (by decide)).returning _
  | tickMix3Final => cases h; exact hs.tickFinal.returning _
  | lfsr4Step => cases h; exact hs.stepLfsr4.returning _
  | lfsr5Step => cases h; exact hs.stepLfsr5.returning _
  | lfsr9Step => cases h; exact hs.stepLfsr9.returning _
  | lfsr17Step => cases h; exact hs.stepLfsr17.returning _
  | timerStep c => cases h; exact (hs.timerStep c).returning _
  | mixStep c => cases h; exact (hs.mixStep c).returning _
  | stimerReload => cases h; exact hs.stimerReload.returning _

theorem fetch (hs : BlockInv s) : BlockInv (fetch s).2 := by
  unfold Machine.fetch
  split
  · exact { hs with }
  · exact { hs with }

end BlockInv

/-- Settles O59: what is fetched decodes to a well-formed instruction, and every such instruction keeps the invariant. -/
theorem everyStepKeepsInvariant : Obligations.EveryStepKeepsInvariant := by
  intro s t hs h
  obtain ⟨-, i, hdecode, hexec⟩ := step_cases h
  exact hs.fetch.exec (decode_wellFormed hdecode) hexec

/-! ### The range of the accumulator and the sample -/

/-- The registers that `Tidy` bounds, at a legal tick state (R30, R31, R164). -/
structure SumsInRange (s : State) : Prop where
  tick : s.step.toNat ≤ 8
  acc : s.acc.toNat ≤ accBound s.step.toNat
  sample : ∃ n, n ≤ 60 ∧ s.sample.toNat = scaleNat n

theorem accBound_succ (n : Nat) : accBound (n + 1) = 15 * (n + 1 - 5) := rfl

namespace SumsInRange

variable {s t : State}

theorem of_frame (hs : SumsInRange s) (hstep : t.step = s.step) (hacc : t.acc = s.acc) (hsample : t.sample = s.sample) :
    SumsInRange t where
  tick := hstep ▸ hs.tick
  acc := by rw [hstep, hacc]; exact hs.acc
  sample := hsample ▸ hs.sample

theorem returning (hs : SumsInRange s) (r : Result) : SumsInRange (s.returning r) := hs.of_frame rfl rfl rfl

/-- A full cycle of four mix steps adds at most 60 (R31). -/
theorem acc_le_sixty (hs : SumsInRange s) : s.acc.toNat ≤ 60 := by
  have htick := hs.tick
  have hacc := hs.acc
  unfold accBound at hacc
  split at hacc <;> omega

theorem of_cleared (hstep : t.step = 0) (hacc : t.acc = 0) (hsample : t.sample = 0) : SumsInRange t where
  tick := by simp [hstep]
  acc := by simp [hacc]
  sample := ⟨0, Nat.zero_le 60, by simp [hsample, scaleNat]⟩

theorem tickZero (hs : SumsInRange s) : SumsInRange (tickZero s) where
  tick := by simp
  acc := by simp
  sample := by simpa using hs.sample

/-- No timer step changes the accumulator, and none has been mixed yet (R152). -/
theorem tickTimer (hs : SumsInRange s) {c : Chan} (hc : s.step.toNat = c.val + 1) : SumsInRange (tickTimer c s) where
  tick := tickTimer_step_le c s
  acc := by
    have hacc := hs.acc
    have hbound : accBound (c.val + 1) = 0 := by rw [accBound_succ]; omega
    rw [hc, hbound] at hacc
    exact hacc.trans (Nat.zero_le _)
  sample := by simpa using hs.sample

/-- Before the mix step of channel `n` at most `n` volumes, each at most 15, have been added (R153, R164). -/
theorem acc_le_of_step (hs : SumsInRange s) {n : Nat} (hn : s.step.toNat = n + 5) : s.acc.toNat ≤ 15 * n := by
  have hacc := hs.acc
  rwa [hn, accBound_succ] at hacc

theorem tickMix (hs : SumsInRange s) {c : Chan} (hc : c.val ≤ 2) (hstep : s.step.toNat = c.val + 5) :
    SumsInRange (tickMix c s) where
  tick := tickMix_step_le hc s
  acc := by
    have hacc := hs.acc_le_of_step hstep
    have hmix := mixStep_acc_le c s (by omega)
    have hnext : (Machine.tickMix c s).step.toNat = c.val + 6 := by simp; omega
    rw [tickMix_acc, hnext, accBound_succ]
    omega
  sample := by simpa using hs.sample

/-- The sum of the four mix steps is at most 60, and the sample is its scale (R155, R156). -/
theorem tickFinal (hs : SumsInRange s) (hstep : s.step.toNat = 8) : SumsInRange (tickFinal s) := by
  have hacc := hs.acc_le_of_step (n := 3) hstep
  have hmix := mixStep_acc_le 3 s (by omega)
  have hsum : (mixStep 3 s).acc.toNat ≤ 60 := by omega
  exact {
    tick := by simp
    acc := by simpa [accBound] using hsum
    sample := ⟨_, hsum, finalize_sample _ hsum⟩ }

theorem advanceOneStep (hs : SumsInRange s) : SumsInRange (advanceOneStep s).1 := by
  rcases advanceOneStep_cases s hs.tick with ⟨-, h⟩ | ⟨c, hc, h⟩ | ⟨c, hc, hstep, h⟩ | ⟨hstep, h⟩ <;> rw [h]
  · exact hs.tickZero
  · exact hs.tickTimer hc
  · exact hs.tickMix hc hstep
  · exact hs.tickFinal hstep

theorem paySynthesis (hs : SumsInRange s) : SumsInRange (paySynthesis s) := by
  have hadvanced : SumsInRange (Machine.advanceOneStep (consumeOne s)).1 :=
    (hs.of_frame (consumeOne_step s) (consumeOne_acc s) (consumeOne_sample s)).advanceOneStep
  unfold Machine.paySynthesis
  split
  · dsimp only
    split
    · exact hadvanced.of_frame rfl rfl rfl
    · exact hadvanced
  · exact hs

theorem busEffect (hs : SumsInRange s) {b : BusSample} {T : Nat} (h : BusEffect b T s t) : SumsInRange t := by
  have hlow : SumsInRange (lowAccount T s) := hs.of_frame (by simp) (by simp) (by simp)
  cases h with
  | discarded => exact hs.returning _
  | rom => exact hs.of_frame (by simp) (by simp) (by simp)
  | dma => exact hs.of_frame (by simp) (by simp) (by simp)
  | active => exact hlow.paySynthesis.returning _
  | sniffed =>
    have hsniff : SumsInRange (sniff b (lowAccount T s)) := hlow.of_frame (by simp) (by simp) (by simp)
    exact hsniff.paySynthesis.returning _

end SumsInRange

/-- The instructions of the CMD and BUS words; the others are micro-operations (R3, R80). -/
def isOperation : Instr → Bool
  | .tickStep0 | .tickTimer0 | .tickTimer1 | .tickTimer2 | .tickTimer3 | .tickMix0 | .tickMix1 | .tickMix2 | .tickMix3Final
  | .tickReserved _ | .lfsr4Step | .lfsr5Step | .lfsr9Step | .lfsr17Step | .timerStep _ | .mixStep _ | .stimerReload _ => false
  | _ => true

theorem decodeCmd_isOperation {p : Params} {w : BitVec 16} {bus : BitVec 26} {T : Nat} {a2 : Addr} {i : Instr}
    (h : decodeCmd p w bus T a2 = .ok i) : isOperation i = true := by
  rcases decodeCmd_cases h with hi | ⟨idx, v, rfl⟩ | rfl | rfl | rfl | ⟨low, rfl⟩
  · fin_cases hi <;> rfl
  · rcases decodeWrite_cases idx v with h | h | ⟨-, h⟩ | ⟨c, h | h⟩ <;> rw [h] <;> rfl
  all_goals rfl

/-- Interface operations and bus samples decode to no micro-operation (R86, R87). -/
theorem decode_isOperation {p : Params} {x : Input} {i : Instr} (hx : x.isInterface = true) (h : decode p x = .ok i) :
    isOperation i = true := by
  cases x with
  | cmd => exact decodeCmd_isOperation h
  | bus =>
    cases h
    unfold decodeBus
    split <;> rfl
  | tick | noise | timer | mix | reload => cases hx

/-- Only the sequencer and the resets touch the accumulator and the sample. -/
theorem SumsInRange.exec {s t : State} (hs : SumsInRange s) {i : Instr} (hi : isOperation i = true)
    (h : exec i s = .next t) : SumsInRange t := by
  cases i with
  | reset | blockReset => cases h; exact .of_cleared rfl rfl rfl
  | advance =>
    obtain rfl := execAdvance_next h
    exact hs.advanceOneStep.returning _
  | busIterate b T a2 | busRom b T a2 | busRegWrite b T a2 | busLowActive b T a2 | busLowDma b T a2 =>
    exact hs.busEffect (BusEffect.of_exec b T a2 (by simp) h)
  | writeDiv | writeCtl | writeReg8 | writeStimer | writePlain | currentOutput => cases h; exact hs.of_frame rfl rfl rfl
  | noteElapsed | consume => cases h; exact hs.of_frame (by simp) (by simp) (by simp)
  | reservedOp => cases h
  | tickStep0 | tickTimer0 | tickTimer1 | tickTimer2 | tickTimer3 | tickMix0 | tickMix1 | tickMix2 | tickMix3Final
  | tickReserved | lfsr4Step | lfsr5Step | lfsr9Step | lfsr17Step | timerStep | mixStep | stimerReload => cases hi

/-- What a tidy machine is handed next comes through its interface: the environment's draws are bus samples (R200). -/
theorem Tidy.fetch_isInterface {s : State} (hs : Tidy s) : (fetch s).1.isInterface = true := by
  have hqueue := hs.interface
  unfold fetch
  split
  · next x rest h => exact hqueue x (by simp [h])
  · rfl

theorem fetch_inputs_subset (s : State) : (fetch s).2.inputs ⊆ s.inputs := by
  unfold fetch
  split
  · next x rest h => simp [h]
  · exact List.Subset.refl _

theorem Tidy.fetch_sumsInRange {s : State} (hs : Tidy s) (htick : s.step.toNat ≤ 8) : SumsInRange (fetch s).2 := by
  have hrange : SumsInRange s := ⟨htick, hs.acc, hs.sample⟩
  unfold fetch
  split <;> exact hrange.of_frame rfl rfl rfl

/-- Settles O60: a step of a tidy machine runs an operation at a legal tick state, and no operation adds to the queue. -/
theorem everyStepKeepsSampleRange : Obligations.EveryStepKeepsSampleRange := by
  intro s t hs h
  obtain ⟨hrefusal, i, hdecode, hexec⟩ := step_cases h
  obtain ⟨-, -, htick⟩ := (stateRefusal_eq_none_iff s).mp hrefusal
  have hrange := (hs.fetch_sumsInRange htick).exec (decode_isOperation hs.fetch_isInterface hdecode) hexec
  have hinterface : ∀ x ∈ t.inputs, x.isInterface = true := by
    rw [(exec_retains hexec).inputs]
    exact fun x hx => hs.interface x (fetch_inputs_subset s hx)
  exact ⟨⟨hinterface, hrange.acc, hrange.sample⟩, hrange.acc_le_sixty⟩

end Sys2Proof.Machine
end

section
/-!
Memory and the register window (spec/20_memory.md): what the ROM lookup reads (R62, R63), and where the write to a windowed
register stands among the sub-steps of its iteration (R72, R148, R212, R213).
-/
namespace Sys2Proof.Machine

/-! ### The ROM lookup -/

theorem romByte_of_offset {s : State} {a : Addr} {off : Nat} (hoff : off < s.cfg.romSize)
    (ha : a.toNat = s.cfg.romBase.toNat + off) : romByte s a = s.rom.read off := by
  have hsub : a.toNat - s.cfg.romBase.toNat = off := by omega
  have hin : s.cfg.romBase.toNat ≤ a.toNat ∧ a.toNat - s.cfg.romBase.toNat < s.cfg.romSize := by omega
  rw [romByte, if_pos hin, hsub]

theorem romByte_outside {s : State} {a : Addr}
    (ha : a.toNat < s.cfg.romBase.toNat ∨ s.cfg.romBase.toNat + s.cfg.romSize ≤ a.toNat) : romByte s a = 0xFF :=
  if_neg (by omega)

/-- Settles O30: the two addresses outside the table are the two sides of one range. -/
theorem romByteReadsTableOrSentinel : Obligations.RomByteReadsTableOrSentinel := fun _ _ =>
  ⟨fun _ hoff ha => romByte_of_offset hoff ha, fun h => romByte_outside (.inl h), fun h => romByte_outside (.inr h)⟩

/-! ### The sniffed write is the register write of its index's class -/

theorem regIndex_eq (a : Addr) : regIndex a = BitVec.ofNat 4 (a.toNat % 16) := by
  apply BitVec.eq_of_toNat_eq
  rw [regIndex, field_toNat, BitVec.toNat_ofNat]
  omega

/-- An odd index below 8 is the control register of the channel its bits 2 and 1 name (R21, R86). -/
theorem ctlIndex_of_low_odd {idx : BitVec 4} (h3 : idx.getLsbD 3 = false) (h0 : idx.getLsbD 0 = true) :
    ctlIndex (idx.extractLsb' 1 2).toFin = idx := by
  revert idx
  decide

/-- The class instruction of an index does what the sniff's `writeRegister` does (R86, R142, R213). -/
theorem exec_decodeWrite (idx : BitVec 4) (v : Byte) (s : State) :
    exec (decodeWrite idx v) s = .next ((writeRegister idx v s).returning .unit) := by
  unfold decodeWrite
  split
  · next h3 =>
    split
    · next h8 => subst h8; rfl
    · split
      · next h9 => subst h9; rfl
      · next h9 => rw [writeRegister_high idx v s h3 h9]; rfl
  · next h3 =>
    have h9 : idx ≠ 9 := fun h => h3 (h ▸ rfl)
    split
    · next h0 =>
      have hctl := ctlIndex_of_low_odd (Bool.eq_false_iff.mpr h3) h0
      simp only [writeRegister, h9, h3, h0, exec, execWriteCtl, hctl, if_true, if_false, Bool.false_eq_true]
    · next h0 => simp only [writeRegister, h9, h3, h0, exec, execWriteDiv, if_false, Bool.false_eq_true]

/-! ### The sub-steps of an iteration with the host CPU on the bus -/

theorem glitched_eq_false {s : State} {b : BusSample} {a2 : Addr} (h : s.cfg.glitchFilter = true → a2 = b.addr) :
    glitched s b a2 = false := by
  unfold glitched
  cases hfilter : s.cfg.glitchFilter
  · rfl
  · simp [h hfilter]

theorem synthesis_returning (s : State) (r : Result) : synthesis (s.returning r) = synthesis s := by
  have hbad : badTick (s.returning r) = badTick s := rfl
  have howed : debtOwed (s.returning r) = debtOwed s := rfl
  rw [synthesis, synthesis, hbad, howed, paySynthesis_returning, State.returning_returning]

theorem exec_advance {s : State} (h : s.step.toNat ≤ 8) :
    exec .advance s = .next ((advanceOneStep s).1.returning (.bool (advanceOneStep s).2)) := by
  have hbad : badTick s = false := by simp [badTick, h]
  simp [exec, execAdvance, hbad]

/-- Sub-step (3) is CONSUME and, only where that returns true, one ADVANCE, with the sample emitted where the ADVANCE returns
true (R214, R215). -/
theorem synthesis_is_consume_advance {s : State} (h : s.step.toNat ≤ 8) :
    ∃ s2 t, exec .consume s = .next s2 ∧ synthesis s = .next t ∧
      (s.debt = 0 → t = s.returning .unit) ∧
      (0 < s.debt → ∃ s3, exec .advance s2 = .next s3 ∧
        t = { s3 with result := .unit, events := s3.events ++
          (if s3.result = .bool true then [.emitSample (outputScale s.cfg s3.sample)] else []) }) := by
  refine ⟨_, _, rfl, synthesis_next h, fun hd => ?_, fun hd => ⟨_, exec_advance (by simpa using h), ?_⟩⟩
  · rcases paySynthesis_cases s with ⟨-, hpay⟩ | ⟨hpos, -⟩ | ⟨hpos, -⟩
    · rw [hpay]
    all_goals omega
  · rw [advanceOneStep_returning, consumeOne_eq]
    rcases paySynthesis_cases s with ⟨hzero, -⟩ | ⟨-, hsample, hpay⟩ | ⟨-, hsample, hpay⟩
    · omega
    · rw [hpay, hsample]
      ext1 <;> simp
    · rw [hpay, hsample]
      ext1 <;> simp [emitOutput]

/-- The first sub-step of every iteration with the host CPU on the bus is a NOTE_ELAPSED after the release (R212, R216). -/
theorem exec_noteElapsed_released (T : Nat) (s : State) :
    exec (.noteElapsed T)
      { s with driving := false, events := s.events ++ (if s.driving then [.releaseBus] else []) } =
    .next ((lowAccount T s).returning .unit) := by
  rw [lowAccount_eq, release_eq]
  rfl

theorem exec_busRegWrite {s : State} {b : BusSample} {a2 : Addr} (T : Nat)
    (h : s.cfg.glitchFilter = true → a2 = b.addr) :
    exec (.busRegWrite b T a2) s = synthesis (sniff b (lowAccount T s)) := by
  simp [exec, execBusRegWrite, glitched_eq_false h, lowActivePath]

/-- Settles O36: the sniff is the register write of its index's class, and CONSUME and ADVANCE run on the state it leaves. -/
theorem sniffComesBeforeTheTick : Obligations.SniffComesBeforeTheTick := by
  intro s b T a2 _ hglitch htick
  have hwrite : exec (decodeWrite (BitVec.ofNat 4 (b.addr.toNat % 16)) b.data) ((lowAccount T s).returning .unit) =
      .next ((sniff b (lowAccount T s)).returning .unit) := by
    rw [exec_decodeWrite, writeRegister_returning, ← regIndex_eq]
    rfl
  obtain ⟨s2, t, hconsume, hsynthesis, hidle, hpaid⟩ :=
    synthesis_is_consume_advance (s := (sniff b (lowAccount T s)).returning .unit) (by simpa using htick)
  rw [synthesis_returning] at hsynthesis
  exact ⟨_, _, s2, t, exec_noteElapsed_released T s, hwrite, hconsume, (exec_busRegWrite T hglitch).trans hsynthesis,
    by simpa using hidle, by simpa using hpaid⟩

end Sys2Proof.Machine
end

section
/-!
Decoding and encoding (spec/30_encoding.md): the CMD words by their numbers (R82, R86, R89), the round trips between words
and instructions (R90), the assembler (R91, R92), and the classes of bus samples (R87).
-/
namespace Sys2Proof.Machine

/-! ### The fields of a CMD word -/

theorem cmdOp_toNat (w : BitVec 16) : (w.extractLsb' 12 4).toNat = w.toNat / 4096 := by
  have hw := w.isLt
  rw [field_toNat]
  omega

theorem cmdLow_eq_zero_iff (w : BitVec 16) : w.extractLsb' 0 12 = 0 ↔ w.toNat % 4096 = 0 := by
  rw [← BitVec.toNat_inj, field_toNat]
  simp

/-- A word is rebuilt from its fields OP, IDX and VAL (R82). -/
theorem cmdWord_fields (w : BitVec 16) :
    cmdWord (w.extractLsb' 12 4) (w.extractLsb' 8 4) (w.extractLsb' 0 8) = w := by
  apply BitVec.eq_of_toNat_eq
  rw [cmdWord_toNat, cmdOp_toNat, field_toNat, field_toNat]
  omega

/-- A word without IDX and VAL is its operation code alone (R82). -/
theorem cmdWord_of_low_zero {w : BitVec 16} {op : BitVec 4} (hop : w.toNat / 4096 = op.toNat)
    (hlow : w.toNat % 4096 = 0) : cmdWord op 0 0 = w := by
  apply BitVec.eq_of_toNat_eq
  rw [cmdWord_toNat, ← hop]
  simp
  omega

/-- A word with bit 15 set is rebuilt from its other bits (R89). -/
theorem reservedWord_of_low {w : BitVec 16} (h : 8 ≤ w.toNat / 4096) :
    (1 : BitVec 1) ++ w.extractLsb' 0 15 = w := by
  have hw := w.isLt
  apply BitVec.eq_of_toNat_eq
  rw [reservedWord_toNat, field_toNat]
  omega

theorem reservedWord_low (low : BitVec 15) : ((1 : BitVec 1) ++ low).extractLsb' 0 15 = low := by
  have hlow := low.isLt
  apply BitVec.eq_of_toNat_eq
  rw [field_toNat, reservedWord_toNat]
  omega

/-! ### What the decoder answers on a CMD word -/

theorem decodeUnused_eq_error_iff (w : BitVec 16) (i : Instr) :
    decodeUnused w i = .error .reservedBits ↔ w.toNat % 4096 ≠ 0 := by
  rw [ne_eq, ← cmdLow_eq_zero_iff]
  unfold decodeUnused
  split
  · next hlow => simp [hlow]
  · next hlow => exact iff_of_true rfl hlow

theorem low_zero_of_decodeUnused {w : BitVec 16} {i j : Instr} (h : decodeUnused w j = .ok i) :
    w.toNat % 4096 = 0 := by
  by_contra hlow
  rw [(decodeUnused_eq_error_iff w j).mpr hlow] at h
  cases h

/-- OP 8..15 is RESERVED_OP, whatever the other bits are (R89). -/
theorem decodeCmd_of_reserved_op (p : Params) {w : BitVec 16} (bus : BitVec 26) (T : Nat) (a2 : Addr)
    (h : 8 ≤ w.toNat / 4096) : decodeCmd p w bus T a2 = .ok (.reservedOp (w.extractLsb' 0 15)) := by
  unfold decodeCmd
  rw [cmdOp_toNat]
  split
  case h_9 => rfl
  all_goals omega

/-- OP 1 is the register write of the word's IDX and VAL (R86). -/
theorem decodeCmd_write (p : Params) (idx : BitVec 4) (v : Byte) (bus : BitVec 26) (T : Nat) (a2 : Addr) :
    decodeCmd p (cmdWord 1 idx v) bus T a2 = .ok (decodeWrite idx v) := by
  unfold decodeCmd
  rw [cmdWord_op, cmdWord_idx, cmdWord_val]
  rfl

/-- The rejected words are those of an operation without IDX and VAL that have one of them (R89). -/
theorem decodeCmd_eq_error_iff (p : Params) (w : BitVec 16) (bus : BitVec 26) (T : Nat) (a2 : Addr) :
    decodeCmd p w bus T a2 = .error .reservedBits ↔
      w.toNat / 4096 < 8 ∧ w.toNat / 4096 ≠ 1 ∧ w.toNat % 4096 ≠ 0 := by
  unfold decodeCmd
  rw [cmdOp_toNat]
  split
  case h_2 hop => simp [hop]
  case h_9 =>
    simp only [imp_false] at *
    simp only [reduceCtorEq, false_iff]
    omega
  all_goals
    rw [decodeUnused_eq_error_iff]
    omega

/-! ### The register writes -/

theorem chanIndex_false (c : Chan) : chanIndex c false = divIndex c := by
  revert c
  decide

theorem chanIndex_true (c : Chan) : chanIndex c true = ctlIndex c := by
  revert c
  decide

theorem decodeWrite_divIndex (c : Chan) (v : Byte) : decodeWrite (divIndex c) v = .writeDiv c v := by
  fin_cases c <;> rfl

theorem decodeWrite_ctlIndex (c : Chan) (v : Byte) : decodeWrite (ctlIndex c) v = .writeCtl c v := by
  fin_cases c <;> rfl

theorem decodeWrite_plain {idx : BitVec 4} (v : Byte) (h : 10 ≤ idx.toNat) :
    decodeWrite idx v = .writePlain idx v := by
  have h3 : idx.getLsbD 3 = true := by
    revert idx
    decide
  have h8 : idx ≠ 8 := by rintro rfl; simp at h
  have h9 : idx ≠ 9 := by rintro rfl; simp at h
  rw [decodeWrite, if_pos h3, if_neg h8, if_neg h9]

/-- An even index below 8 is the divisor register of the channel its bits 2 and 1 name (R21, R86). -/
theorem divIndex_of_low_even {idx : BitVec 4} (h3 : idx.getLsbD 3 = false) (h0 : idx.getLsbD 0 = false) :
    divIndex (idx.extractLsb' 1 2).toFin = idx := by
  revert idx
  decide

/-- Every register write is encoded as a WRITE_REG of its index (R86). -/
theorem encode_decodeWrite (idx : BitVec 4) (v : Byte) : encode (decodeWrite idx v) = plainCmd 1 idx v := by
  unfold decodeWrite
  split
  · split
    · next h8 => subst h8; rfl
    · split
      · next h9 => subst h9; rfl
      · rfl
  · next h3 =>
    rw [Bool.not_eq_true] at h3
    split
    · next h0 => rw [encode, chanIndex_true, ctlIndex_of_low_odd h3 h0]
    · next h0 => rw [encode, chanIndex_false, divIndex_of_low_even h3 (Bool.eq_false_iff.mpr h0)]

/-! ### The round trips -/

theorem cycleOperand_of_fits {p : Params} {T : Nat} (h : cycleFits p T = true) : cycleOperand p T = T :=
  Nat.mod_eq_of_lt (of_decide_eq_true h)

theorem decodeTick_reserved {v : BitVec 4} (h : 9 ≤ v.toNat) : decodeTick v = .tickReserved v := by
  unfold decodeTick
  split
  case h_10 => rfl
  all_goals omega

theorem decode_plainCmd_write (p : Params) (idx : BitVec 4) (v : Byte) :
    decode p (plainCmd 1 idx v) = .ok (decodeWrite idx v) := decodeCmd_write p idx v 0 0 0

/-- A BUS word is decoded by the class of its sample (R87). -/
theorem decode_busWord {p : Params} (b : BusSample) {T : Nat} (a2 : Addr) (hT : cycleFits p T = true) :
    decode p (.bus (busWord b) T a2) = .ok (decodeBus p b T a2) := by
  rw [decode, busOfWord_busWord, cycleOperand_of_fits hT]

/-- Settles O46: each instruction's word is decoded by the fields the encoder put there, and well-formedness says that no
operand was cut. -/
theorem decodeEncodeRoundTrip : Obligations.DecodeEncodeRoundTrip := by
  intro p i hwf
  cases i with
  | reset | advance | currentOutput | consume | stimerReload => rfl
  | tickStep0 | tickTimer0 | tickTimer1 | tickTimer2 | tickTimer3 | tickMix0 | tickMix1 | tickMix2 | tickMix3Final => rfl
  | lfsr4Step | lfsr5Step | lfsr9Step | lfsr17Step | timerStep | mixStep => rfl
  | writeDiv c v => rw [encode, decode_plainCmd_write, chanIndex_false, decodeWrite_divIndex]
  | writeCtl c v => rw [encode, decode_plainCmd_write, chanIndex_true, decodeWrite_ctlIndex]
  | writeReg8 v | writeStimer v =>
    rw [encode, decode_plainCmd_write]
    rfl
  | writePlain idx v => rw [encode, decode_plainCmd_write, decodeWrite_plain v (of_decide_eq_true hwf)]
  | noteElapsed T =>
    change Except.ok (Instr.noteElapsed (cycleOperand p T)) = _
    rw [cycleOperand_of_fits hwf]
  | blockReset c0 =>
    change Except.ok (Instr.blockReset (cycleOperand p c0)) = _
    rw [cycleOperand_of_fits hwf]
  | busIterate b T a2 =>
    change Except.ok (Instr.busIterate (busOfWord (busWord b)) (cycleOperand p T) a2) = _
    rw [busOfWord_busWord, cycleOperand_of_fits hwf]
  | reservedOp low =>
    have hop : 8 ≤ ((1 : BitVec 1) ++ low).toNat / 4096 := by
      rw [reservedWord_toNat]
      omega
    rw [encode, decode, decodeCmd_of_reserved_op p 0 0 0 hop, reservedWord_low]
  | busRom b T a2 | busRegWrite b T a2 | busLowActive b T a2 | busLowDma b T a2 =>
    simp only [WellFormed, Bool.and_eq_true, beq_iff_eq] at hwf
    obtain ⟨hclass, hT⟩ := hwf
    rw [encode, decode_busWord b a2 hT, decodeBus, hclass]
  | tickReserved v => rw [encode, decode, decodeTick_reserved (of_decide_eq_true hwf)]

/-- Settles O47, as `decode_wellFormed` has it. -/
theorem decodedIsWellFormed : Obligations.DecodedIsWellFormed := fun _ _ _ h => decode_wellFormed h

/-- An operation without IDX and VAL is encoded as the word it was decoded from: its code with nothing beside it (R82). -/
theorem encode_word_of_decodeUnused {w : BitVec 16} {i j : Instr} {op : BitVec 4} {bus : BitVec 26} {T : Nat} {a2 : Addr}
    (hj : encode j = .cmd (cmdWord op 0 0) bus T a2) (hop : w.toNat / 4096 = op.toNat)
    (h : decodeUnused w j = .ok i) : ∃ bus' T' a2', encode i = .cmd w bus' T' a2' := by
  rw [decodeUnused_eq_ok h, hj, cmdWord_of_low_zero hop (low_zero_of_decodeUnused h)]
  exact ⟨_, _, _, rfl⟩

theorem encode_word_of_decodeCmd {p : Params} {w : BitVec 16} {bus : BitVec 26} {T : Nat} {a2 : Addr} {i : Instr}
    (h : decodeCmd p w bus T a2 = .ok i) : ∃ bus' T' a2', encode i = .cmd w bus' T' a2' := by
  unfold decodeCmd at h
  rw [cmdOp_toNat] at h
  split at h
  case h_2 hop =>
    cases h
    have hfields := cmdWord_fields w
    rw [BitVec.eq_of_toNat_eq (y := 1) ((cmdOp_toNat w).trans hop)] at hfields
    rw [encode_decodeWrite, plainCmd, hfields]
    exact ⟨_, _, _, rfl⟩
  case h_9 =>
    cases h
    have hreserved : 8 ≤ w.toNat / 4096 := by
      simp only [imp_false] at *
      omega
    rw [encode, reservedWord_of_low hreserved]
    exact ⟨_, _, _, rfl⟩
  all_goals exact encode_word_of_decodeUnused rfl ‹_› h

theorem encode_decodeBus (p : Params) (b : BusSample) (T : Nat) (a2 : Addr) :
    encode (decodeBus p b T a2) = .bus (busWord b) T a2 := by
  unfold decodeBus
  split <;> rfl

theorem encode_decodeTick (w : BitVec 4) : encode (decodeTick w) = .tick w := by
  revert w
  decide

theorem encode_decodeNoise (w : BitVec 2) : encode (decodeNoise w) = .noise w := by
  revert w
  decide

/-- Settles O48, format by format. -/
theorem encodeDecodeGivesTheWord : Obligations.EncodeDecodeGivesTheWord := by
  intro p i
  refine ⟨fun w bus T a2 h => encode_word_of_decodeCmd h, fun w T a2 h => ?_, fun w h => ?_, fun w h => ?_, fun w h => ?_,
    fun w h => ?_⟩ <;> cases h
  · rw [encode_decodeBus, busWord_busOfWord, cycleOperand]
  · exact encode_decodeTick w
  · exact encode_decodeNoise w
  · rfl
  · rfl

/-! ### Rejections and refusals -/

/-- Settles O49: only the CMD format has words that the decoder rejects. -/
theorem onlyReservedBitsAreRejected : Obligations.OnlyReservedBitsAreRejected := by
  intro p x
  cases x with
  | cmd w bus T a2 =>
    rw [decode, decodeCmd_eq_error_iff]
    constructor
    · exact fun h => ⟨w, bus, T, a2, rfl, h⟩
    · rintro ⟨_, _, _, _, hx, h⟩
      cases hx
      exact h
  | bus | tick | noise | timer | mix | reload => simp [decode]

theorem step_eq_refused_of_decode {s : State} {e : Reject} (hs : stateRefusal s = none)
    (hd : decode (fetch s).2.cfg (fetch s).1 = .error e) : step s = .refused (rejectRefusal e) := by
  simp only [step, hs, hd]

/-- Settles O50: the reserved codes and tick values decode to instructions whose meaning is the refusal, and reserved bits
are rejected by the decoder. -/
theorem reservedEncodingsAreRefused : Obligations.ReservedEncodingsAreRefused := by
  refine ⟨fun _ _ => rfl, fun _ _ => rfl, fun s rest hmark hparams htick => ⟨?_, ?_, ?_⟩⟩
  · intro w bus T a2 hop
    exact stepRunsDecodedInstruction { s with inputs := .cmd w bus T a2 :: rest } _ rest _ hmark hparams htick rfl
      (decodeCmd_of_reserved_op s.cfg bus T a2 hop)
  · intro w bus T a2 hop hne hlow
    have hs : stateRefusal { s with inputs := .cmd w bus T a2 :: rest } = none :=
      (stateRefusal_eq_none_iff _).mpr ⟨hmark, hparams, htick⟩
    exact step_eq_refused_of_decode hs ((decodeCmd_eq_error_iff s.cfg w bus T a2).mpr ⟨hop, hne, hlow⟩)
  · intro v hv
    exact stepRunsDecodedInstruction { s with inputs := .tick v :: rest } _ rest _ hmark hparams htick rfl
      (congrArg Except.ok (decodeTick_reserved hv))

/-! ### The assembler -/

/-- `wr` writes the fields of a WRITE_REG word by shifts (R82, R91). -/
theorem asmInput_wr (idx : BitVec 4) (v : Byte) : asmInput (.wr idx v) = encode (decodeWrite idx v) := by
  have hword : (cmdWord 1 idx v).toNat = 0x1000 ||| idx.toNat <<< 8 ||| v.toNat := by
    rw [cmdWord, BitVec.toNat_append, BitVec.toNat_append, Nat.shiftLeft_or_distrib]
    rfl
  rw [encode_decodeWrite, asmInput, ← hword, BitVec.ofNat_toNat, BitVec.setWidth_eq, plainCmd]

/-- `bus` writes the fields of its sample's word by shifts (R81, R91). -/
theorem asmInput_bus (b : BusSample) (T : Nat) (a2 : Addr) :
    asmInput (.bus b.addr b.data b.cpuActive b.write T a2) = encode (.busIterate b T a2) := by
  have hword : (busWord b).toNat =
      b.data.toNat <<< 18 ||| b.cpuActive.toNat <<< 17 ||| b.write.toNat <<< 16 ||| b.addr.toNat := by
    simp only [busWord, BitVec.toNat_append, BitVec.toNat_ofBool, Nat.shiftLeft_or_distrib, ← Nat.shiftLeft_add]
  rw [asmInput, ← hword, BitVec.ofNat_toNat, BitVec.setWidth_eq]
  rfl

theorem decode_asmInput_wr (p : Params) (idx : BitVec 4) (v : Byte) :
    decode p (asmInput (.wr idx v)) = .ok (decodeWrite idx v) := by
  rw [asmInput_wr]
  exact decodeEncodeRoundTrip p _ (decodeWrite_wellFormed p idx v)

theorem decode_asmInput_bus {p : Params} (b : BusSample) {T : Nat} (a2 : Addr) (hT : T < 2 ^ p.cycleBits) :
    decode p (asmInput (.bus b.addr b.data b.cpuActive b.write T a2)) = .ok (.busIterate b T a2) := by
  rw [asmInput_bus]
  exact decodeEncodeRoundTrip p _ (decide_eq_true hT)

/-- Settles O51: each line's input is the encoding of the operation it stands for, so the round trip of O46 decodes it. -/
theorem assemblerLinesDecode : Obligations.AssemblerLinesDecode := by
  intro p
  have hround := decodeEncodeRoundTrip p
  refine ⟨decode_asmInput_wr p, fun T hT => ⟨?_, ?_⟩, fun a d c w T a2 hT => ?_, hround .reset rfl, hround .advance rfl,
    hround .currentOutput rfl, hround .consume rfl, rfl, ?_, fun c div ctl => ?_, fun c => ?_, fun a d T hT => ⟨?_, ?_⟩⟩
  · exact hround (.noteElapsed T) (decide_eq_true hT)
  · exact hround (.blockReset T) (decide_eq_true hT)
  · exact decode_asmInput_bus ⟨d, c, w, a⟩ a2 hT
  · rw [asmStimer, List.map_singleton, decode_asmInput_wr]
    rfl
  · simp only [asmTone, List.map_cons, List.map_nil, decode_asmInput_wr, decodeWrite_divIndex, decodeWrite_ctlIndex]
  · rw [asmMute, List.map_singleton, decode_asmInput_wr, decodeWrite_ctlIndex]
  · exact congrArg (fun x => [x]) (decode_asmInput_bus ⟨0, true, false, a⟩ a hT)
  · exact congrArg (fun x => [x]) (decode_asmInput_bus ⟨d, true, true, a⟩ a hT)

/-- Settles O52: seven closed words, evaluated. -/
theorem sampleWordsDecode : Obligations.SampleWordsDecode :=
  ⟨rfl, rfl, rfl, rfl, rfl, rfl, rfl⟩

/-! ### The classes of bus samples -/

/-- When a sample is in each class: the tests of R87 in their order. -/
theorem classify_eq_iff (p : Params) (b : BusSample) :
    (classify p b = .rom ↔ inRom p b.addr = true) ∧
    (classify p b = .regWrite ↔
      inRom p b.addr = false ∧ b.cpuActive = true ∧ (b.write && inWindow p b.addr) = true) ∧
    (classify p b = .lowActive ↔
      inRom p b.addr = false ∧ b.cpuActive = true ∧ (b.write && inWindow p b.addr) = false) ∧
    (classify p b = .lowDma ↔ inRom p b.addr = false ∧ b.cpuActive = false) := by
  rw [classify, Bool.and_assoc]
  cases inRom p b.addr with
  | true => simp
  | false =>
    cases b.cpuActive with
    | false => simp
    | true => cases b.write && inWindow p b.addr <;> simp

/-- Settles O37: the tests of R210's pseudocode are those of R87, and each path is its class's. -/
theorem iterationIsItsClass : Obligations.IterationIsItsClass := by
  intro s b T a2
  obtain ⟨hrom, hwrite, hactive, hdma⟩ := classify_eq_iff s.cfg b
  rw [decodeBus]
  cases h : classify s.cfg b with
  | rom =>
    have hin := hrom.mp h
    cases hglitch : glitched s b a2 <;> simp [exec, execBusIterate, execBusRom, hglitch, hin]
  | regWrite =>
    obtain ⟨hin, hcpu, hsniff⟩ := hwrite.mp h
    simp [exec, execBusIterate, execBusRegWrite, hin, hcpu, hsniff]
  | lowActive =>
    obtain ⟨hin, hcpu, hsniff⟩ := hactive.mp h
    simp [exec, execBusIterate, execBusLowActive, hin, hcpu, hsniff]
  | lowDma =>
    obtain ⟨hin, hcpu⟩ := hdma.mp h
    cases hglitch : glitched s b a2 <;> simp [exec, execBusIterate, execBusLowDma, hglitch, hin, hcpu]

/-- Settles O42: the other three classes read the sample's address and write strobe alone. -/
theorem dataByteMattersOnlyInSniff : Obligations.DataByteMattersOnlyInSniff := by
  intro s b d T a2 hclass
  have hsame : classify s.cfg { b with data := d } = classify s.cfg b := rfl
  rw [iterationIsItsClass, iterationIsItsClass, decodeBus, decodeBus, hsame]
  cases h : classify s.cfg b with
  | regWrite => exact absurd h hclass
  | rom | lowActive | lowDma => rfl

/-! ### The classes by address ranges -/

theorem inRom_eq_true_iff (p : Params) (a : Addr) : inRom p a = true ↔ p.romBase.toNat ≤ a.toNat := decide_eq_true_iff

theorem inRom_eq_false_iff (p : Params) (a : Addr) : inRom p a = false ↔ a.toNat < p.romBase.toNat := by
  rw [inRom, decide_eq_false_iff_not, Nat.not_le]

/-- R8's constraints on the register window: it starts at a multiple of 16 and ends below the ROM region. -/
theorem window_of_paramsValid {p : Params} (h : paramsValid p = true) :
    p.regWindowBase.toNat % 16 = 0 ∧ p.regWindowBase.toNat + 15 < p.romBase.toNat := by
  simp only [paramsValid, Bool.and_eq_true, decide_eq_true_eq, beq_iff_eq, and_assoc] at h
  obtain ⟨hbelow, haligned, -⟩ := h
  have hbase := congrArg BitVec.toNat haligned
  rw [field_toNat] at hbase
  exact ⟨by simpa using hbase, hbelow⟩

/-- The twelve high bits select the 16 addresses from the window's base on (R202). -/
theorem inWindow_eq_true_iff {p : Params} (a : Addr) (h : p.regWindowBase.toNat % 16 = 0) :
    inWindow p a = true ↔ p.regWindowBase.toNat ≤ a.toNat ∧ a.toNat ≤ p.regWindowBase.toNat + 15 := by
  have ha := a.isLt
  have hbase := p.regWindowBase.isLt
  rw [inWindow, beq_iff_eq, ← BitVec.toNat_inj, field_toNat, field_toNat]
  omega

/-- Settles O38: the tests of R87 as ranges; the window lies below the ROM region, so its test implies that one's. -/
theorem classesFollowAddressRanges : Obligations.ClassesFollowAddressRanges := by
  intro p b hparams
  obtain ⟨haligned, hbelow⟩ := window_of_paramsValid hparams
  have hwindow := inWindow_eq_true_iff b.addr haligned
  obtain ⟨hrom, hwrite, hactive, hdma⟩ := classify_eq_iff p b
  rw [inRom_eq_true_iff] at hrom
  rw [inRom_eq_false_iff, Bool.and_eq_true, hwindow] at hwrite
  rw [inRom_eq_false_iff, ← Bool.not_eq_true, Bool.and_eq_true, hwindow] at hactive
  rw [inRom_eq_false_iff] at hdma
  refine ⟨hrom, hwrite.trans ⟨fun h => h.2, fun h => ⟨by omega, h⟩⟩, hactive, hdma, fun h => ?_⟩
  obtain ⟨-, -, -, hlow, hhigh⟩ := hwrite.mp h
  rw [regIndex, field_toNat]
  omega

end Sys2Proof.Machine
end

section
/-!
The noise generators (spec/40_noise_generators.md): the common formula (R100), that each step is one to one (R105), the
noise index (R106), the periods (R107), and where the generators change (R108).
-/
namespace Sys2Proof.Machine

/-! ### The common formula -/

/-- The feedback bit as a number: the low bit of the two shifted states' exclusive or (R100). -/
theorem feedback_toNat {w : Nat} (a b : Nat) (v : BitVec w) :
    (v.getLsbD a ^^ v.getLsbD b).toNat = (v.toNat >>> a ^^^ v.toNat >>> b) % 2 := by
  have hlow := Nat.toNat_testBit (v.toNat >>> a ^^^ v.toNat >>> b) 0
  rwa [Nat.testBit_xor, Nat.testBit_shiftRight, Nat.testBit_shiftRight, pow_zero, Nat.div_one] at hlow

/-- The step is R100 on naturals: the shift and the feedback are each cut to the width. -/
theorem lfsrStep_toNat {w : Nat} (a b : Nat) (v : BitVec w) :
    (lfsrStep a b v).toNat = lfsrFormula w a b v.toNat := by
  rw [lfsrStep, lfsrFormula, Nat.and_two_pow_sub_one_eq_mod, Nat.or_mod_two_pow, BitVec.toNat_or, BitVec.toNat_shiftLeft,
    BitVec.toNat_setWidth, BitVec.toNat_ofBool, feedback_toNat]

/-- Settles O9: the four NOISE values are evaluated, and each step is the formula with its taps. -/
theorem lfsrStepsFollowFormula : Obligations.LfsrStepsFollowFormula :=
  ⟨fun _ => ⟨rfl, rfl, rfl, rfl⟩, fun s =>
    ⟨⟨_, rfl, rfl, lfsrStep_toNat 3 2 s.lfsr4, fun _ => rfl⟩, ⟨_, rfl, rfl, lfsrStep_toNat 4 2 s.lfsr5, fun _ => rfl⟩,
      ⟨_, rfl, rfl, lfsrStep_toNat 8 4 s.lfsr9, fun _ => rfl⟩, ⟨_, rfl, rfl, lfsrStep_toNat 16 13 s.lfsr17, fun _ => rfl⟩⟩⟩

/-! ### Every step is one to one -/

/-- `f` commutes with bitwise exclusive or. -/
abbrev XorLinear {w : Nat} (f : BitVec w → BitVec w) : Prop := Function.Semiconj₂ f (· ^^^ ·) (· ^^^ ·)

theorem XorLinear.map_zero {w : Nat} {f : BitVec w → BitVec w} (hf : XorLinear f) : f 0 = 0 := by
  simpa using hf 0 0

theorem lfsrStep_xorLinear {w : Nat} (a b : Nat) : XorLinear (lfsrStep (w := w) a b) := by
  intro u v
  refine BitVec.eq_of_getLsbD_eq fun i hi => ?_
  cases i with
  | zero => simp [lfsrStep, hi, Bool.xor_left_comm]
  | succ i => simp [lfsrStep, hi]

theorem lfsrStep_eq_zero_iff {n b : Nat} (hb : b < n) (v : BitVec (n + 1)) : lfsrStep n b v = 0 ↔ v = 0 :=
  ⟨not_imp_not.mp (lfsrStep_ne_zero hb), fun h => h ▸ (lfsrStep_xorLinear n b).map_zero⟩

/-- A linear map that reaches 0 from 0 only is one to one (R105). -/
theorem lfsrStep_inj {n b : Nat} (hb : b < n) {u v : BitVec (n + 1)} : lfsrStep n b u = lfsrStep n b v ↔ u = v := by
  have hxor : lfsrStep n b (u ^^^ v) = lfsrStep n b u ^^^ lfsrStep n b v := lfsrStep_xorLinear n b u v
  rw [← BitVec.xor_eq_zero_iff, ← hxor]
  exact (lfsrStep_eq_zero_iff hb _).trans BitVec.xor_eq_zero_iff

/-- Settles O10, width by width. -/
theorem lfsrStepsAreBijections : Obligations.LfsrStepsAreBijections := by
  intro s s' t t'
  refine ⟨?_, ?_, ?_, ?_⟩ <;> rintro ⟨⟩ ⟨⟩
  · exact ⟨lfsrStep_inj (by decide), lfsrStep_eq_zero_iff (by decide) s.lfsr4⟩
  · exact ⟨lfsrStep_inj (by decide), lfsrStep_eq_zero_iff (by decide) s.lfsr5⟩
  · exact ⟨lfsrStep_inj (by decide), lfsrStep_eq_zero_iff (by decide) s.lfsr9⟩
  · exact ⟨lfsrStep_inj (by decide), lfsrStep_eq_zero_iff (by decide) s.lfsr17⟩

/-! ### The powers of a linear map

A linear map on words is known from its columns, its values at the words with one bit set. The columns of `f^[2 ^ k]` come
from those of `f` by `k` squarings, so that a period of `2 ^ w - 1` steps is checked in `w` squarings and not step by step. -/

/-- The words with one bit set. -/
def unitWords (w : Nat) : List (BitVec w) := (List.range w).map (BitVec.twoPow w)

/-- The exclusive or of the words of the list that the bits of `v` from bit `i` up select. -/
def selectXor {w : Nat} (v : BitVec w) : Nat → List (BitVec w) → BitVec w
  | _, [] => 0
  | i, c :: cs => (if v.getLsbD i then c else 0) ^^^ selectXor v (i + 1) cs

/-- The columns of `f ∘ f` from those of `f`. -/
def squareColumns {w : Nat} (cs : List (BitVec w)) : List (BitVec w) := cs.map fun c => selectXor c 0 cs

theorem getLsbD_selectXor_twoPow {w : Nat} (v : BitVec w) (i m j : Nat) :
    (selectXor v i ((List.range' i m).map (BitVec.twoPow w))).getLsbD j =
      (decide (i ≤ j ∧ j < i + m) && v.getLsbD j) := by
  induction m generalizing i with
  | zero => simp [selectXor]
  | succ m ih =>
    rw [List.range'_succ, List.map_cons, selectXor, BitVec.getLsbD_xor, ih]
    rcases eq_or_ne i j with rfl | hne
    · cases hv : v.getLsbD i with
      | false => simp
      | true => simp [BitVec.lt_of_getLsbD hv]
    · have hrange : (i + 1 ≤ j ∧ j < i + 1 + m) ↔ (i ≤ j ∧ j < i + (m + 1)) := by omega
      simp only [hrange, apply_ite (BitVec.getLsbD · j), BitVec.getLsbD_twoPow]
      simp [hne]

/-- Every word is the exclusive or of the one-bit words of its bits. -/
theorem selectXor_unitWords {w : Nat} (v : BitVec w) : selectXor v 0 (unitWords w) = v := by
  refine BitVec.eq_of_getLsbD_eq fun j hj => ?_
  rw [unitWords, List.range_eq_range', getLsbD_selectXor_twoPow]
  simp [hj]

namespace XorLinear
variable {w : Nat} {f : BitVec w → BitVec w} (hf : XorLinear f)
include hf

theorem selectXor_map (v : BitVec w) (i : Nat) (cs : List (BitVec w)) :
    selectXor v i (cs.map f) = f (selectXor v i cs) := by
  induction cs generalizing i with
  | nil => exact hf.map_zero.symm
  | cons c cs ih => simp only [List.map_cons, selectXor, ih, hf.eq, apply_ite f, hf.map_zero]

theorem selectXor_columns (v : BitVec w) : selectXor v 0 ((unitWords w).map f) = f v := by
  rw [hf.selectXor_map, selectXor_unitWords]

/-- The columns of `f ∘ f` are the values of `f` at the columns of `f`. -/
theorem squareColumns_columns : squareColumns ((unitWords w).map f) = (unitWords w).map f^[2] := by
  simp only [squareColumns, hf.selectXor_columns, List.map_map]
  rfl

theorem iterate_squareColumns_columns (k : Nat) :
    squareColumns^[k] ((unitWords w).map f) = (unitWords w).map f^[2 ^ k] := by
  induction k with
  | zero => rfl
  | succ k ih =>
    have hpow : XorLinear f^[2 ^ k] := hf.iterate _
    rw [Function.iterate_succ_apply', ih, hpow.squareColumns_columns, ← Function.iterate_mul, pow_succ]

/-- A linear map whose columns `k` squarings leave is its own power `2 ^ k`. -/
theorem iterate_two_pow_eq {k : Nat} (hcolumns : squareColumns^[k] ((unitWords w).map f) = (unitWords w).map f)
    (v : BitVec w) : f^[2 ^ k] v = f v := by
  have hpow : XorLinear f^[2 ^ k] := hf.iterate _
  rw [← hpow.selectXor_columns, ← hf.iterate_squareColumns_columns, hcolumns, hf.selectXor_columns]

end XorLinear

/-! ### The periods -/

/-- A generator whose columns are back after as many squarings as it has bits returns to every state (R107). -/
theorem lfsrStep_isPeriodicPt {n b : Nat} (hb : b < n)
    (hcolumns : squareColumns^[n + 1] ((unitWords (n + 1)).map (lfsrStep n b)) = (unitWords (n + 1)).map (lfsrStep n b))
    (v : BitVec (n + 1)) : Function.IsPeriodicPt (lfsrStep n b) (2 ^ (n + 1) - 1) v := by
  have hpow := (lfsrStep_xorLinear n b).iterate_two_pow_eq hcolumns v
  rw [← Nat.sub_add_cancel (Nat.one_le_two_pow (n := n + 1)), Function.iterate_succ_apply'] at hpow
  exact (lfsrStep_inj hb).mp hpow

/-- A point with period `N` returns within `N` steps only if it does so after a proper divisor of `N`. -/
theorem iterate_ne_of_properDivisors {α : Type} {f : α → α} {x : α} {N : Nat} (hN : Function.IsPeriodicPt f N x)
    (hdiv : ∀ d ∈ N.properDivisors, f^[d] x ≠ x) {k : Nat} (hpos : 0 < k) (hk : k < N) : f^[k] x ≠ x := by
  intro hreturn
  have hgcd : k.gcd N ∈ N.properDivisors :=
    Nat.mem_properDivisors.mpr ⟨Nat.gcd_dvd_right k N, (Nat.gcd_le_left N hpos).trans_lt hk⟩
  exact hdiv _ hgcd (Function.IsPeriodicPt.gcd hreturn hN)

/-- An instruction that always answers a next state, with `f` applied to a field, applies `f` as often as it is executed. -/
theorem execTimes_of_exec {α : Type} {i : Instr} {field : State → α} {f : α → α}
    (hexec : ∀ s, ∃ t, exec i s = .next t ∧ field t = f (field s)) (k : Nat) (s : State) :
    ∃ t, execTimes i k s = some t ∧ field t = f^[k] (field s) := by
  induction k generalizing s with
  | zero => exact ⟨s, rfl, rfl⟩
  | succ k ih =>
    obtain ⟨u, hu, hfield⟩ := hexec s
    obtain ⟨t, ht, hiter⟩ := ih u
    refine ⟨t, ?_, ?_⟩
    · rw [execTimes, hu]
      exact ht
    · rw [hiter, hfield, Function.iterate_succ_apply]

/-- A generator whose seed has period `N`, and no proper divisor of `N` as a period, first returns to it after `N` steps. -/
theorem firstReturn_of_isPeriodicPt {α : Type} {i : Instr} (field : State → α) {f : α → α} {seed : α} {N : Nat}
    (hexec : ∀ s, ∃ t, exec i s = .next t ∧ field t = f (field s)) (hN : Function.IsPeriodicPt f N seed)
    (hdiv : ∀ d ∈ N.properDivisors, f^[d] seed ≠ seed) {s : State} (hs : field s = seed) :
    (execTimes i N s).map field = some seed ∧
      ∀ k, 0 < k → k < N → ∃ t, execTimes i k s = some t ∧ field t ≠ seed := by
  subst hs
  refine ⟨?_, fun k hpos hk => ?_⟩
  · obtain ⟨t, ht, hfield⟩ := execTimes_of_exec hexec N s
    rw [ht, Option.map_some, hfield, hN.eq]
  · obtain ⟨t, ht, hfield⟩ := execTimes_of_exec hexec k s
    exact ⟨t, ht, hfield ▸ iterate_ne_of_properDivisors hN hdiv hpos hk⟩

theorem lfsr4_isPeriodicPt (v : BitVec 4) : Function.IsPeriodicPt (lfsrStep 3 2) 15 v :=
  lfsrStep_isPeriodicPt (by decide) (by decide) v

theorem lfsr5_isPeriodicPt (v : BitVec 5) : Function.IsPeriodicPt (lfsrStep 4 2) 31 v :=
  lfsrStep_isPeriodicPt (by decide) (by decide) v

theorem lfsr9_isPeriodicPt (v : BitVec 9) : Function.IsPeriodicPt (lfsrStep 8 4) 511 v :=
  lfsrStep_isPeriodicPt (by decide) (by decide) v

set_option maxRecDepth 2000 in
/-- The seventeen squarings of the 17 columns nest deeper than the default recursion limit lets `decide` evaluate. -/
theorem lfsr17_isPeriodicPt (v : BitVec 17) : Function.IsPeriodicPt (lfsrStep 16 13) 131071 v :=
  lfsrStep_isPeriodicPt (by decide) (by decide) v

set_option maxRecDepth 2000 in
/-- Neither 1, 7 nor 73 steps lead the 9-bit generator from its seed back to it. -/
theorem lfsr9_iterate_ne_of_properDivisor :
    ∀ d ∈ Nat.properDivisors 511, (lfsrStep 8 4)^[d] (0x1FF : BitVec 9) ≠ 0x1FF := by
  decide

/-- Settles O11: a smaller return would happen after a proper divisor of the period, and none does. -/
theorem shortGeneratorsHaveFullPeriod : Obligations.ShortGeneratorsHaveFullPeriod := fun _ =>
  ⟨firstReturn_of_isPeriodicPt State.lfsr4 (fun _ => ⟨_, rfl, rfl⟩) (lfsr4_isPeriodicPt 0xF) (by decide),
    firstReturn_of_isPeriodicPt State.lfsr5 (fun _ => ⟨_, rfl, rfl⟩) (lfsr5_isPeriodicPt 0x1F) (by decide),
    firstReturn_of_isPeriodicPt State.lfsr9 (fun _ => ⟨_, rfl, rfl⟩) (lfsr9_isPeriodicPt 0x1FF)
      lfsr9_iterate_ne_of_properDivisor⟩

/-- Settles O12: the return is the period of every state, and one step from the seed is evaluated. -/
theorem longGeneratorReturnsToSeed : Obligations.LongGeneratorReturnsToSeed := by
  intro s hseed
  obtain ⟨t, ht, hfield⟩ := execTimes_of_exec (i := .lfsr17Step) (field := State.lfsr17) (f := lfsrStep 16 13)
    (fun _ => ⟨_, rfl, rfl⟩) 131071 s
  refine ⟨⟨t, ht, ?_⟩, _, rfl, ?_⟩
  · rw [hfield, hseed]
    exact lfsr17_isPeriodicPt 0x1FFFF
  · change lfsrStep 16 13 s.lfsr17 ≠ 0x1FFFF
    rw [hseed]
    decide

/-! ### Where the generators change -/

/-- All four generators are unchanged. -/
structure SameNoise (s t : State) : Prop where
  lfsr4 : t.lfsr4 = s.lfsr4
  lfsr5 : t.lfsr5 = s.lfsr5
  lfsr9 : t.lfsr9 = s.lfsr9
  lfsr17 : t.lfsr17 = s.lfsr17

/-- From a tick state other than 0, ADVANCE runs no tick step 0 (R150, R151). -/
theorem advanceOneStep_sameNoise {s : State} (h : s.step.toNat ≠ 0) : SameNoise s (advanceOneStep s).1 := by
  unfold advanceOneStep
  split
  case h_1 h0 => exact absurd h0 h
  all_goals constructor <;> simp

theorem paySynthesis_sameNoise {s : State} (h : s.step.toNat ≠ 0) : SameNoise s (paySynthesis s) := by
  obtain ⟨h4, h5, h9, h17⟩ := advanceOneStep_sameNoise (s := { s with debt := s.debt - 1 }) h
  rcases paySynthesis_cases s with ⟨-, hpay⟩ | ⟨-, -, hpay⟩ | ⟨-, -, hpay⟩ <;> rw [hpay]
  · exact ⟨rfl, rfl, rfl, rfl⟩
  · exact ⟨h4, h5, h9, h17⟩
  · exact ⟨h4, h5, h9, h17⟩

/-- An iteration on the bus changes the generators by its tick step alone (R108). -/
theorem BusEffect.sameNoise {b : BusSample} {T : Nat} {s t : State} (hstep : s.step.toNat ≠ 0)
    (h : BusEffect b T s t) : SameNoise s t := by
  cases h with
  | discarded | rom | dma => constructor <;> simp
  | active =>
    obtain ⟨h4, h5, h9, h17⟩ := paySynthesis_sameNoise (s := lowAccount T s) (by simpa using hstep)
    constructor <;> simp [h4, h5, h9, h17]
  | sniffed =>
    obtain ⟨h4, h5, h9, h17⟩ := paySynthesis_sameNoise (s := sniff b (lowAccount T s)) (by simpa using hstep)
    constructor <;> simp [h4, h5, h9, h17]

/-- The instructions that run tick step 0 or a noise micro-operation, or seed the generators, from the tick state `tick`
(R108). -/
def movesNoise (tick : Nat) : Instr → Bool
  | .reset | .blockReset _ | .tickStep0 | .lfsr4Step | .lfsr5Step | .lfsr9Step | .lfsr17Step => true
  | .advance | .busIterate _ _ _ | .busRegWrite _ _ _ | .busLowActive _ _ _ => tick == 0
  | _ => false

theorem movesNoise_cases {tick : Nat} {i : Instr} (h : movesNoise tick i = true) :
    i = .reset ∨ (∃ c0, i = .blockReset c0) ∨ i = .tickStep0 ∨
    i = .lfsr4Step ∨ i = .lfsr5Step ∨ i = .lfsr9Step ∨ i = .lfsr17Step ∨
    (tick = 0 ∧
      (i = .advance ∨ ∃ b T a2, i = .busIterate b T a2 ∨ i = .busRegWrite b T a2 ∨ i = .busLowActive b T a2)) := by
  cases i with
  | reset | blockReset | tickStep0 | lfsr4Step | lfsr5Step | lfsr9Step | lfsr17Step => simp
  | advance | busIterate | busRegWrite | busLowActive => simpa [movesNoise] using h
  | _ => cases h

/-- Every other instruction leaves all four generators. -/
theorem exec_sameNoise {i : Instr} {s t : State} (h : exec i s = .next t) (hi : movesNoise s.step.toNat i = false) :
    SameNoise s t := by
  cases i with
  | reset | blockReset | tickStep0 | lfsr4Step | lfsr5Step | lfsr9Step | lfsr17Step => cases hi
  | reservedOp | tickReserved => cases h
  | writeDiv | writeCtl | writeReg8 | writeStimer | writePlain | currentOutput | noteElapsed | consume | tickTimer0
  | tickTimer1 | tickTimer2 | tickTimer3 | tickMix0 | tickMix1 | tickMix2 | tickMix3Final | timerStep | mixStep
  | stimerReload =>
    cases h
    constructor <;> simp [Machine.writeDiv, Machine.writeStimer, setDivisor]
  | advance =>
    obtain rfl := execAdvance_next h
    obtain ⟨h4, h5, h9, h17⟩ := advanceOneStep_sameNoise (beq_eq_false_iff_ne.mp hi)
    exact ⟨h4, h5, h9, h17⟩
  | busIterate b T a2 | busRegWrite b T a2 | busLowActive b T a2 =>
    exact (BusEffect.of_exec b T a2 (by simp) h).sameNoise (beq_eq_false_iff_ne.mp hi)
  | busRom b T a2 | busLowDma b T a2 =>
    obtain rfl := Host.Outcome.next.inj h
    split <;> constructor <;> simp

/-- Settles O14: an instruction that is none of those listed leaves all four generators. -/
theorem noiseMovesOnlyAtTickZero : Obligations.NoiseMovesOnlyAtTickZero := by
  intro i s t h hmoved
  by_contra hi
  have hstill : movesNoise s.step.toNat i = false := Bool.eq_false_iff.mpr fun hmoves => hi (movesNoise_cases hmoves)
  obtain ⟨h4, h5, h9, h17⟩ := exec_sameNoise h hstill
  simp [h4, h5, h9, h17] at hmoved

/-! ### The noise index -/

theorem noiseIndex_toNat (s : State) : (noiseIndex s).toNat =
    s.lfsr4.toNat % 2 + 2 * (s.lfsr5.toNat % 2) + 4 * (s.lfsr9.toNat % 2) + 8 * (s.lfsr17.toNat % 2) := by
  simp only [noiseIndex, append_toNat, BitVec.toNat_ofBool, bit_eq, low_bit_toNat]
  omega

theorem SameNoise.noiseIndex_eq {s t : State} (h : SameNoise s t) : noiseIndex t = noiseIndex s := by
  rw [noiseIndex, noiseIndex, h.lfsr4, h.lfsr5, h.lfsr9, h.lfsr17]

/-- Settles O13: the bits are appended lowest last, and an ADVANCE from tick states 1..8 leaves the generators. -/
theorem noiseIndexPacksLowBits : Obligations.NoiseIndexPacksLowBits :=
  ⟨noiseIndex_toNat, fun _ hpos hle =>
    ⟨_, exec_advance hle, (advanceOneStep_sameNoise (Nat.ne_of_gt hpos)).noiseIndex_eq⟩⟩

end Sys2Proof.Machine
end

section
/-!
The channel timers (spec/41_channel_timers.md): one timer step of a channel (R121), and the half period of a channel that
runs from its reload (R123).
-/
namespace Sys2Proof.Machine

/-! ### The decrement -/

theorem decrementCounter_wrap_toNat (n : Byte) : (decrementCounter .wrap n).toNat = (n.toNat + 255) % 256 := by
  simp only [decrementCounter]
  bv_omega

theorem decrementCounter_saturate_toNat (n : Byte) : (decrementCounter .saturate n).toNat = n.toNat - 1 := by
  simp only [decrementCounter]
  split <;> bv_omega

/-- The two policies differ at 0 alone. -/
theorem decrementCounter_toNat_of_ne_zero (u : TimerUnderflow) {n : Byte} (hn : n ≠ 0) :
    (decrementCounter u n).toNat = n.toNat - 1 := by
  cases u with
  | wrap =>
    rw [decrementCounter_wrap_toNat]
    bv_omega
  | saturate => exact decrementCounter_saturate_toNat n

/-! ### One step of a channel -/

theorem timerChannel_unmuted_of_zero {u : TimerUnderflow} {x : Channel} (h : decrementCounter u x.counter = 0) :
    timerChannel u false x = { x with counter := x.divisor, out := !x.out } :=
  if_pos h

theorem timerChannel_unmuted_of_ne_zero {u : TimerUnderflow} {x : Channel} (h : decrementCounter u x.counter ≠ 0) :
    timerChannel u false x = { x with counter := decrementCounter u x.counter } :=
  if_neg h

/-- Both branches of an unmuted step, by the number `n` that the decrement gives. -/
theorem timerChannel_unmuted_counts {u : TimerUnderflow} {x : Channel} {n : Nat}
    (hn : (decrementCounter u x.counter).toNat = n) :
    if n = 0 then (timerChannel u false x).counter = x.divisor ∧ (timerChannel u false x).out = !x.out
    else (timerChannel u false x).counter.toNat = n ∧ (timerChannel u false x).out = x.out := by
  split
  · next h0 =>
    rw [timerChannel_unmuted_of_zero (BitVec.eq_of_toNat_eq (hn.trans h0))]
    exact ⟨rfl, rfl⟩
  · next hne =>
    have h : decrementCounter u x.counter ≠ 0 := fun h => hne (by rw [← hn, h]; rfl)
    rw [timerChannel_unmuted_of_ne_zero h]
    exact ⟨hn, rfl⟩

/-! ### The step of the bank -/

theorem timerStep_channel_self (c : Chan) (s : State) :
    (timerStep c s).ch[c] = timerChannel s.cfg.timerUnderflow (ctlMute (s.ctl c)) s.ch[c] :=
  Vector.getElem_set_self c.isLt

theorem timerStep_channel_of_ne {c d : Chan} (h : d ≠ c) (s : State) : (timerStep c s).ch[d] = s.ch[d] :=
  Vector.getElem_set_ne c.isLt d.isLt fun he => h (Fin.ext he.symm)

/-- Settles O15: the muted case forces the output, and each policy's decrement decides between counting and the reload. -/
theorem timerStepCountsAndToggles : Obligations.TimerStepCountsAndToggles := by
  refine ⟨fun p c => by fin_cases c <;> rfl, fun s c => ⟨_, rfl, rfl, fun _ => rfl, fun d hd => ?_, ?_, ?_⟩⟩
  · exact timerStep_channel_of_ne hd s
  · exact (congrArg Channel.divisor (timerStep_channel_self c s)).trans (timerChannel_divisor _ _ _)
  · change if ctlMute (s.ctl c) then _ else _
    simp only [State.returning_ch, timerStep_channel_self]
    split
    · next hmute =>
      rw [hmute]
      exact ⟨rfl, rfl⟩
    · next hmute =>
      rw [Bool.eq_false_iff.mpr hmute]
      cases s.cfg.timerUnderflow with
      | wrap => exact timerChannel_unmuted_counts (decrementCounter_wrap_toNat _)
      | saturate => exact timerChannel_unmuted_counts (decrementCounter_saturate_toNat _)

/-! ### The half period -/

/-- As long as an unmuted channel counts, only its counter changes, and each step brings the reload one step nearer. -/
theorem iterate_timerChannel_counts {u : TimerUnderflow} {x : Channel} (k : Nat)
    (hk : k ≤ (decrementCounter u x.counter).toNat) :
    ∃ n, (timerChannel u false)^[k] x = { x with counter := n } ∧
      (decrementCounter u n).toNat + k = (decrementCounter u x.counter).toNat := by
  induction k with
  | zero => exact ⟨x.counter, rfl, rfl⟩
  | succ k ih =>
    obtain ⟨n, hiter, hleft⟩ := ih (Nat.le_of_succ_le hk)
    have hne : decrementCounter u n ≠ 0 := by bv_omega
    refine ⟨decrementCounter u n, ?_, ?_⟩
    · rw [Function.iterate_succ_apply', hiter]
      exact timerChannel_unmuted_of_ne_zero hne
    · rw [decrementCounter_toNat_of_ne_zero u hne]
      bv_omega

/-- The reload comes one step after the counter has been counted down. -/
theorem iterate_timerChannel_reloads (u : TimerUnderflow) (x : Channel) :
    (timerChannel u false)^[(decrementCounter u x.counter).toNat + 1] x =
      { x with counter := x.divisor, out := !x.out } := by
  obtain ⟨n, hiter, hleft⟩ := iterate_timerChannel_counts _ (le_refl (decrementCounter u x.counter).toNat)
  have hzero : decrementCounter u n = 0 := BitVec.eq_of_toNat_eq (Nat.add_eq_right.mp hleft)
  rw [Function.iterate_succ_apply', hiter]
  exact timerChannel_unmuted_of_zero hzero

/-- Timer steps leave the policy and the mute bit, so they iterate one step of the channel. -/
theorem execTimes_timerStep (c : Chan) (k : Nat) (s : State) :
    ∃ t, execTimes (.timerStep c) k s = some t ∧
      t.ch[c] = (timerChannel s.cfg.timerUnderflow (ctlMute (s.ctl c)))^[k] s.ch[c] := by
  induction k generalizing s with
  | zero => exact ⟨s, rfl, rfl⟩
  | succ k ih =>
    obtain ⟨t, ht, hch⟩ := ih ((timerStep c s).returning .unit)
    refine ⟨t, ht, ?_⟩
    rw [hch, Function.iterate_succ_apply, ← timerStep_channel_self]
    rfl

/-- `h(d)` (R123), the timer steps from a reload with divisor `d` to the next. -/
def halfPeriod (u : TimerUnderflow) (d : Byte) : Nat :=
  if d = 0 then (match u with | .wrap => 256 | .saturate => 1) else d.toNat

/-- The steps that count the decremented divisor down, and the step that reloads. -/
theorem halfPeriod_eq (u : TimerUnderflow) (d : Byte) : halfPeriod u d = (decrementCounter u d).toNat + 1 := by
  unfold halfPeriod
  split
  · next h0 =>
    subst h0
    cases u <;> rfl
  · next hne =>
    rw [decrementCounter_toNat_of_ne_zero u hne]
    bv_omega

/-- Settles O16: `h(d)` is the number of steps from the reload to the next one, and before it the channel only counts. -/
theorem channelInvertsEveryHalfPeriod : Obligations.ChannelInvertsEveryHalfPeriod := by
  intro s c hmute hreloaded h
  have hctl : ctlMute (s.ctl c) = false := hmute
  have hh : h = (decrementCounter s.cfg.timerUnderflow s.ch[c].counter).toNat + 1 :=
    (halfPeriod_eq _ _).trans (by rw [hreloaded])
  refine ⟨?_, fun k hk => ?_⟩
  · obtain ⟨t, ht, hch⟩ := execTimes_timerStep c h s
    refine ⟨t, ht, ?_⟩
    rw [hch, hctl, hh, iterate_timerChannel_reloads]
    simp only [hreloaded]
  · obtain ⟨t, ht, hch⟩ := execTimes_timerStep c k s
    obtain ⟨n, hiter, -⟩ := iterate_timerChannel_counts k (Nat.lt_succ_iff.mp (hh ▸ hk))
    exact ⟨t, ht, by rw [hch, hctl, hiter]⟩

end Sys2Proof.Machine
end

section
/-!
The synthesis engine (spec/42_synthesis_engine.md): RESET (R140, R141), the register writes (R142-R149), the tick sequencer
(R150-R155), the sample (R156, R157), the distortion table (R160) and the mix (R162, R163).
-/
namespace Sys2Proof.Machine

/-! ### Every register write is its own repetition -/

@[simp] theorem State.setReg_setReg (s : State) (idx : BitVec 4) (v w : Byte) :
    (s.setReg idx v).setReg idx w = s.setReg idx w := by
  simp [State.setReg]

@[simp] theorem setDivisor_setDivisor (s : State) (c : Chan) (v w : Byte) :
    setDivisor (setDivisor s c v) c w = setDivisor s c w := by
  simp [setDivisor, State.setChannel]

theorem writeDiv_idem (c : Chan) (v : Byte) (s : State) : writeDiv c v (writeDiv c v s) = writeDiv c v s := by
  have hswap : (setDivisor (s.setReg (divIndex c) v) c v).setReg (divIndex c) v =
      setDivisor ((s.setReg (divIndex c) v).setReg (divIndex c) v) c v := rfl
  rw [writeDiv, writeDiv, hswap, State.setReg_setReg, setDivisor_setDivisor]

/-- A reload leaves nothing to reload: it changes no divisor (R125). -/
@[simp] theorem stimerReload_stimerReload (s : State) : stimerReload (stimerReload s) = stimerReload s := rfl

theorem writeStimer_idem (v : Byte) (s : State) : writeStimer v (writeStimer v s) = writeStimer v s := by
  have hswap : (stimerReload (s.setReg 9 v)).setReg 9 v = stimerReload ((s.setReg 9 v).setReg 9 v) := rfl
  rw [writeStimer, writeStimer, hswap, State.setReg_setReg, stimerReload_stimerReload]

theorem writeRegister_idem (idx : BitVec 4) (v : Byte) (s : State) :
    writeRegister idx v (writeRegister idx v s) = writeRegister idx v s := by
  unfold writeRegister
  split
  · exact writeStimer_idem v s
  · split
    · exact s.setReg_setReg idx v v
    · split
      · exact s.setReg_setReg idx v v
      · exact writeDiv_idem _ v s

/-- Settles O6, as `exec_decodeWrite` has it. -/
theorem classWritesAreWriteRegister : Obligations.ClassWritesAreWriteRegister := fun s idx v => exec_decodeWrite idx v s

/-- Settles O7: the write of an index's class is `writeRegister`, which is idempotent and reads no result. -/
theorem repeatedWriteIsOneWrite : Obligations.RepeatedWriteIsOneWrite := by
  intro s idx v
  refine ⟨_, exec_decodeWrite idx v s, ?_⟩
  rw [exec_decodeWrite, writeRegister_returning, State.returning_returning, writeRegister_idem]

/-! ### The distortion table -/

/-- Under R160 exactly the rows 5 and 7 are all ones. -/
theorem distRowPure_iff_of_distValid {d : Vector DistRow 8} (h : distValid d = true) (m : BitVec 3) :
    distRowPure d[m.toNat] = true ↔ m.toNat = 5 ∨ m.toNat = 7 := by
  simp only [distValid, Bool.and_eq_true, Bool.not_eq_true', Bool.or_eq_false_iff, and_assoc] at h
  obtain ⟨h5, h7, h0, h1, h2, h3, h4, h6⟩ := h
  obtain ⟨m⟩ := m
  fin_cases m <;> simp [h0, h1, h2, h3, h4, h5, h6, h7]

theorem distEntry_of_pure {r : DistRow} (h : distRowPure r = true) (n : BitVec 4) : distEntry r n = true := by
  cases r with
  | allOnes => rfl
  | mixed => cases h

/-- A row that is not all ones has a 0: its mask is below the mask whose sixteen bits are all set. -/
theorem exists_distEntry_false {r : DistRow} (h : distRowPure r ≠ true) : ∃ n, distEntry r n = false := by
  cases r with
  | allOnes => exact absurd rfl h
  | mixed mask =>
    by_contra hones
    have hmask : mask.val = 2 ^ 16 - 1 := by
      refine Nat.eq_of_testBit_eq fun i => ?_
      rw [Nat.testBit_two_pow_sub_one]
      rcases Nat.lt_or_ge i 16 with hi | hi
      · have hbit : mask.val.testBit (BitVec.ofNat 4 i).toNat = true :=
          Bool.eq_true_of_not_eq_false fun hzero => hones ⟨_, hzero⟩
        rw [BitVec.toNat_ofNat, Nat.mod_eq_of_lt hi] at hbit
        rw [hbit, decide_eq_true hi]
      · have hlt : mask.val < 2 ^ i :=
          mask.isLt.trans (Nat.lt_of_lt_of_le (by decide) (Nat.pow_le_pow_right two_pos hi))
        rw [Nat.testBit_lt_two_pow hlt, decide_eq_false hi.not_gt]
    exact mask.isLt.ne hmask

/-- Settles O23: R8 asks R160 of the table's rows, and an entry is an entry of its mode's row. -/
theorem pureModesAlwaysGate : Obligations.PureModesAlwaysGate := by
  intro p hparams m
  simp only [paramsValid, Bool.and_eq_true] at hparams
  obtain ⟨-, hdist⟩ := hparams
  have hpure := distRowPure_iff_of_distValid hdist m
  refine ⟨fun hm => distEntry_of_pure (hpure.mpr hm), fun hm => exists_distEntry_false fun h => ?_⟩
  obtain h5 | h7 := hpure.mp h
  · exact hm.1 h5
  · exact hm.2 h7

/-! ### The tick sequencer -/

/-- The next tick state, and whether a sample is ready (R150). -/
theorem advanceOneStep_step {s : State} (h : s.step.toNat ≤ 8) :
    (advanceOneStep s).1.step.toNat = (s.step.toNat + 1) % 9 ∧ (advanceOneStep s).2 = (s.step.toNat == 8) := by
  rcases advanceOneStep_cases s h with ⟨hn, hadv⟩ | ⟨c, hn, hadv⟩ | ⟨c, hc, hn, hadv⟩ | ⟨hn, hadv⟩ <;> rw [hadv, hn]
  · exact ⟨rfl, rfl⟩
  · exact ⟨by rw [tickTimer_step, BitVec.toNat_ofNat]; omega, (beq_false_of_ne (by omega)).symm⟩
  · exact ⟨by rw [tickMix_step, BitVec.toNat_ofNat]; omega, (beq_false_of_ne (by omega)).symm⟩
  · exact ⟨rfl, rfl⟩

/-- The row that a tick state names is the micro-step ADVANCE runs from it (R88, R150). -/
theorem exec_decodeTick {s : State} (h : s.step.toNat ≤ 8) :
    exec (decodeTick s.step) s = .next ((advanceOneStep s).1.returning (.bool (advanceOneStep s).2)) := by
  unfold decodeTick advanceOneStep
  rcases hn : s.step.toNat with _ | _ | _ | _ | _ | _ | _ | _ | _ | n
  case succ => omega
  all_goals rfl

/-- Settles O17, as `exec_advance`, `exec_decodeTick` and `advanceOneStep_step` have it. -/
theorem advanceRunsItsTickStep : Obligations.AdvanceRunsItsTickStep := by
  refine ⟨fun _ _ _ _ => rfl, fun s h => ?_, fun s h => ?_⟩
  · have hbad : badTick s = true := decide_eq_true h
    simp [exec, execAdvance, hbad]
  · obtain ⟨hstep, hready⟩ := advanceOneStep_step h
    exact ⟨_, exec_advance h, exec_decodeTick h, hstep, congrArg Result.bool hready⟩

theorem execTimes_succ {i : Instr} {s u : State} (h : exec i s = .next u) (n : Nat) :
    execTimes i (n + 1) s = execTimes i n u := by
  rw [execTimes, h]

/-- `k + 1` calls of ADVANCE within one cycle: the last returns true where it is the one from tick state 8 (R150, R154). -/
theorem execTimes_advance (k : Nat) {s : State} (h : s.step.toNat + k ≤ 8) :
    ∃ t, execTimes .advance (k + 1) s = some t ∧ t.step.toNat = (s.step.toNat + k + 1) % 9 ∧
      t.result = .bool (s.step.toNat + k == 8) := by
  obtain ⟨-, -, hrun⟩ := advanceRunsItsTickStep
  induction k generalizing s with
  | zero =>
    obtain ⟨t, ht, -, hstep, hresult⟩ := hrun s h
    exact ⟨t, execTimes_succ ht 0, hstep, hresult⟩
  | succ k ih =>
    obtain ⟨u, hu, -, hstep, -⟩ := hrun s (by omega)
    rw [Nat.mod_eq_of_lt (by omega)] at hstep
    have hrest := ih (s := u) (by omega)
    rwa [hstep, Nat.add_right_comm _ 1 k, ← execTimes_succ hu] at hrest

/-- Settles O24: the nine calls of one cycle from tick state 0. -/
theorem ninthAdvanceCompletesSample : Obligations.NinthAdvanceCompletesSample := by
  intro s h0
  have hs : s.step.toNat = 0 := by rw [h0]; rfl
  refine ⟨fun k hpos hk => ?_, ?_⟩
  · obtain ⟨j, rfl⟩ := Nat.exists_eq_add_one_of_ne_zero hpos.ne'
    obtain ⟨t, ht, -, hresult⟩ := execTimes_advance j (s := s) (by omega)
    have hj : (s.step.toNat + j == 8) = false := beq_false_of_ne (by omega)
    exact ⟨t, ht, hresult.trans (congrArg Result.bool hj)⟩
  · obtain ⟨t, ht, hstep, hresult⟩ := execTimes_advance 8 (s := s) (by omega)
    rw [hs] at hstep hresult
    exact ⟨t, ht, hresult, BitVec.eq_of_toNat_eq hstep⟩

/-! ### RESET and CURRENT_OUTPUT -/

/-- Settles O1: every engine field is set to a constant. -/
theorem resetClearsEngine : Obligations.ResetClearsEngine := by
  refine ⟨fun _ _ _ _ => rfl, fun s => ⟨_, rfl, rfl, fun i => ?_, fun c => ?_, fun _ => rfl, _, rfl, rfl⟩, ?_⟩
  · exact Vector.getElem_replicate i.isLt
  · exact Vector.getElem_replicate c.isLt
  · rintro s s' _ _ ⟨⟩ ⟨⟩
    exact ⟨rfl, rfl, rfl, rfl, rfl, rfl, rfl, rfl, rfl⟩

/-- Settles O8: the sample is returned and kept. -/
theorem currentOutputReturnsSample : Obligations.CurrentOutputReturnsSample :=
  ⟨fun _ _ _ _ => rfl, fun _ => ⟨_, rfl, rfl, fun _ => rfl, rfl⟩⟩

/-! ### The classes of register writes -/

/-- The word of a WRITE_REG by its number (R82, R86). -/
theorem decode_writeWord (p : Params) (bus : BitVec 26) (T : Nat) (a2 : Addr) {n : Nat} {idx : BitVec 4} {v : Byte}
    (hn : n = 0x1000 + 0x100 * idx.toNat + v.toNat) :
    decode p (.cmd (BitVec.ofNat 16 n) bus T a2) = .ok (decodeWrite idx v) := by
  have hword : BitVec.ofNat 16 n = cmdWord 1 idx v := by
    have hone : (1 : BitVec 4).toNat = 1 := rfl
    apply BitVec.eq_of_toNat_eq
    rw [BitVec.toNat_ofNat, cmdWord_toNat]
    omega
  rw [hword]
  exact decodeCmd_write p idx v bus T a2

theorem ctlIndex_toNat (c : Chan) : (ctlIndex c).toNat = 2 * c.val + 1 := by
  revert c
  decide

/-- A register reads the byte last written to it, and no other register changes (R20). -/
theorem State.setReg_getElem (s : State) (idx : BitVec 4) (v : Byte) (i : Fin 16) :
    (s.setReg idx v).regs[i] = if i.val = idx.toNat then v else s.regs[i] := by
  simp [State.setReg, Vector.getElem_set, eq_comm]

theorem State.setChannel_getElem (s : State) (c d : Chan) (x : Channel) :
    (s.setChannel c x).ch[d] = if d = c then x else s.ch[d] := by
  simp [State.setChannel, Vector.getElem_set, Fin.ext_iff, eq_comm]

theorem stimerReload_getElem (s : State) (c : Chan) : (stimerReload s).ch[c] = reloadChannel s.ch[c] := by
  fin_cases c <;> rfl

theorem ctlDist_eq (v : Byte) : ctlDist v = BitVec.ofNat 3 (v.toNat / 32) := by
  apply BitVec.eq_of_toNat_eq
  rw [ctlDist, field_toNat, BitVec.toNat_ofNat]
  rfl

theorem ctlDist_toNat (v : Byte) : (ctlDist v).toNat = v.toNat / 32 := by
  have hv := v.isLt
  rw [ctlDist, field_toNat]
  omega

theorem ctlVol_toNat (v : Byte) : (ctlVol v).toNat = v.toNat % 16 := by
  rw [ctlVol, field_toNat]
  omega

/-- Settles O2: the counter is not among the fields that the write names. -/
theorem writeDivSetsRegisterAndDivisor : Obligations.WriteDivSetsRegisterAndDivisor := by
  refine ⟨fun p bus T a2 c v => ?_, fun s c v => ⟨_, rfl, rfl, fun i => ?_, fun d => ?_, fun _ => rfl⟩⟩
  · rw [decode_writeWord p bus T a2 (idx := divIndex c) (v := v) (by rw [divIndex_toNat]; omega), decodeWrite_divIndex]
  · rw [← divIndex_toNat]
    exact s.setReg_getElem (divIndex c) v i
  · refine (State.setChannel_getElem _ c d _).trans ?_
    split
    · next h => subst h; rfl
    · rfl

/-- Settles O3: one register is stored, and the fields are read from the byte that the same register then holds. -/
theorem writeCtlStoresControlByte : Obligations.WriteCtlStoresControlByte := by
  refine ⟨fun p bus T a2 c v => ?_, fun s c v => ?_⟩
  · rw [decode_writeWord p bus T a2 (idx := ctlIndex c) (v := v) (by rw [ctlIndex_toNat]; omega), decodeWrite_ctlIndex]
  · have hregs := s.setReg_getElem (ctlIndex c) v
    rw [ctlIndex_toNat] at hregs
    have hctl : (s.setReg (ctlIndex c) v).ctl c = v := (hregs ⟨2 * c.val + 1, by omega⟩).trans (if_pos rfl)
    refine ⟨_, rfl, rfl, hregs, fun _ => rfl, ?_, ?_, ?_⟩
    · exact (congrArg (fun x => (ctlDist x).toNat) hctl).trans (ctlDist_toNat v)
    · exact (congrArg ctlMute hctl).trans (bit_eq v 4)
    · exact (congrArg (fun x => (ctlVol x).toNat) hctl).trans (ctlVol_toNat v)

/-- Settles O4: both classes store one register. -/
theorem storageWritesOnlyStore : Obligations.StorageWritesOnlyStore := by
  refine ⟨fun p bus T a2 v => ?_, fun p bus T a2 idx v hidx => ?_, fun s v => ?_, fun s idx v _ => ?_⟩
  · exact decode_writeWord p bus T a2 (idx := 8) rfl
  · rw [decode_writeWord p bus T a2 rfl, decodeWrite_plain v hidx]
  · exact ⟨_, rfl, rfl, s.setReg_getElem 8 v, fun _ => rfl⟩
  · exact ⟨_, rfl, rfl, s.setReg_getElem idx v, fun _ => rfl⟩

/-- Settles O5: the write is the store of register 9 and the reload, which is also the micro-operation by itself. -/
theorem stimerReloadsAllCounters : Obligations.StimerReloadsAllCounters := by
  refine ⟨fun p bus T a2 v => ?_, fun s v => ?_, fun s v => ?_⟩
  · exact decode_writeWord p bus T a2 (idx := 9) rfl
  · exact ⟨_, rfl, rfl, s.setReg_getElem 9 v, stimerReload_getElem (s.setReg 9 v), fun _ => rfl⟩
  · exact ⟨_, rfl, rfl, stimerReload_getElem s, fun _ => rfl⟩

/-! ### The mix -/

/-- When a channel contributes (R162, R163), by the bits of its control byte. -/
theorem contributes_iff (s : State) (c : Chan) : contributes s c = true ↔
    s.ch[c].out = true ∧ (distTable s.cfg (BitVec.ofNat 3 ((s.ctl c).toNat / 32)) (noiseIndex s) = true ∨
      (s.ctl c).getLsbD 4 = true ∧ s.cfg.muteGated = false) := by
  rw [contributes, gate, ctlDist_eq, ctlMute, Bool.and_eq_true, Bool.or_eq_true, Bool.and_eq_true, Bool.not_eq_true',
    or_comm]

/-- Settles O22: the volume is added exactly where the channel contributes. -/
theorem mixStepAddsGatedVolume : Obligations.MixStepAddsGatedVolume := by
  refine ⟨fun p c => by fin_cases c <;> rfl, fun s c => ⟨_, rfl, ?_, ?_, fun hacc => ⟨mixStep_fresh c s hacc, ?_, ?_⟩⟩⟩
  · exact congrArg (State.returning · .unit) (mixStep_eq c s)
  · exact romByte_congr (mixStep_rom c s) (mixStep_cfg c s)
  · intro h
    have hsum := mixStep_acc_toNat c s hacc
    rwa [if_pos ((contributes_iff s c).mpr h), ctlVol_toNat] at hsum
  · intro h
    have hsum := mixStep_acc_toNat c s hacc
    rw [if_neg (mt (contributes_iff s c).mp h)] at hsum
    exact BitVec.eq_of_toNat_eq hsum

/-! ### The tick steps -/

/-- The finalized sample is 4.25 times the sum, truncated (R156). -/
theorem scaleNat_eq (n : Nat) : scaleNat n = 17 * n / 4 := by
  unfold scaleNat
  omega

/-- The sample draws no free value where the sum is in range. -/
theorem finalize_fresh {s : State} (h : s.acc.toNat ≤ 60) : (finalize s).fresh = s.fresh := by
  rw [finalize, if_pos h]

/-- Settles O18: the generators move by the common formula, and the other fields are given. -/
theorem tickZeroStepsGenerators : Obligations.TickZeroStepsGenerators :=
  ⟨fun _ => rfl, fun s => ⟨_, rfl, rfl, lfsrStep_toNat 3 2 s.lfsr4, lfsrStep_toNat 4 2 s.lfsr5, lfsrStep_toNat 8 4 s.lfsr9,
    lfsrStep_toNat 16 13 s.lfsr17, fun _ => rfl⟩⟩

/-- Settles O19: each row is its timer step with the tick state and the result set. -/
theorem timerTicksStepTheirChannel : Obligations.TimerTicksStepTheirChannel :=
  ⟨fun _ => ⟨rfl, rfl, rfl, rfl⟩, fun _ => ⟨⟨_, rfl, rfl⟩, ⟨_, rfl, rfl⟩, ⟨_, rfl, rfl⟩, ⟨_, rfl, rfl⟩⟩⟩

/-- Settles O20: each row is its mix step with the tick state and the result set. -/
theorem mixTicksMixTheirChannel : Obligations.MixTicksMixTheirChannel :=
  ⟨fun _ => ⟨rfl, rfl, rfl⟩, fun _ => ⟨⟨_, rfl, rfl⟩, ⟨_, rfl, rfl⟩, ⟨_, rfl, rfl⟩⟩⟩

/-- Settles O21: the row is the mix step of channel 3, then the finalization, which changes the sample alone. -/
theorem finalTickFinalizesSample : Obligations.FinalTickFinalizesSample := by
  refine ⟨fun _ => rfl, fun s => ⟨_, _, rfl, rfl, ?_, ?_, fun hsum => ?_⟩⟩
  · exact congrArg (fun t : State => { t with step := 0, result := .bool true }) (finalize_eq (mixStep 3 s))
  · exact romByte_congr (tickFinal_rom s) (tickFinal_cfg s)
  · have hsample : (tickFinal s).sample.toNat = 17 * (mixStep 3 s).acc.toNat / 4 :=
      (finalize_sample (mixStep 3 s) hsum).trans (scaleNat_eq _)
    exact ⟨hsample, Nat.le_of_lt_succ (BitVec.isLt _), finalize_fresh (s := mixStep 3 s) hsum⟩

end Sys2Proof.Machine
end

section
/-!
The elastic scheduler (spec/43_scheduler.md): NOTE_ELAPSED in closed form (R181, R182, R185) and as the source's loop (R187),
and CONSUME (R184).
-/
namespace Sys2Proof.Machine

/-! ### The elapsed count -/

/-- Between counter values the elapsed count is the difference by cases on whether the counter has wrapped (R35, R181). -/
theorem elapsed_eq_elapsedCount {s : State} {T : Nat} (hs : s.lastSampled < 2 ^ s.cfg.cycleBits)
    (hT : T < 2 ^ s.cfg.cycleBits) : elapsed s T = elapsedCount s.cfg.cycleBits s.lastSampled T := by
  unfold elapsed elapsedCount
  generalize 2 ^ s.cfg.cycleBits = N at *
  split
  · rw [Int.emod_eq_of_lt] <;> omega
  · rw [← Int.add_emod_right, Int.emod_eq_of_lt] <;> omega

/-- The count goes on with the counter, as long as it does not come round (R185). -/
theorem elapsedCount_advance {n last T d : Nat} (hlast : last < 2 ^ n) (hT : T < 2 ^ n)
    (hd : elapsedCount n last T + d < 2 ^ n) :
    elapsedCount n last ((T + d) % 2 ^ n) = elapsedCount n last T + d := by
  unfold elapsedCount at *
  generalize 2 ^ n = N at *
  rcases Nat.lt_or_ge (T + d) N with h | h
  · rw [Nat.mod_eq_of_lt h]
    split_ifs at * <;> omega
  · rw [Nat.mod_eq_sub_mod h, Nat.mod_eq_of_lt] <;> split_ifs at * <;> omega

/-- Crediting periods takes their length from the elapsed count (R182), whatever the debt does (R183). -/
theorem elapsed_creditPeriods {n T : Nat} {s : State} (h : n * s.cfg.schedPeriod ≤ elapsed s T) :
    elapsed (creditPeriods n s) T = elapsed s T - n * s.cfg.schedPeriod := by
  have hN : 0 < 2 ^ s.cfg.cycleBits := Nat.two_pow_pos _
  unfold elapsed at *
  rw [creditPeriods_lastSampled, creditPeriods_cfg]
  generalize 2 ^ s.cfg.cycleBits = N at *
  generalize n * s.cfg.schedPeriod = d at *
  have hnonneg := Int.emod_nonneg ((T : Int) - s.lastSampled) (Int.natCast_ne_zero.mpr hN.ne')
  have hlt := Int.emod_lt_of_pos ((T : Int) - s.lastSampled) (Int.natCast_pos.mpr hN)
  have hmoved : ((T : Int) - ((s.lastSampled + d) % N : Nat)) % N = ((T : Int) - s.lastSampled) % N - d := by
    rw [Int.natCast_emod, Int.sub_emod_emod, Nat.cast_add, ← Int.sub_sub, ← Int.emod_sub_emod, Int.emod_eq_of_lt] <;> omega
  omega

/-! ### NOTE_ELAPSED, by the catch-up policy -/

theorem noteElapsed_of_all {s : State} (h : s.cfg.schedCatchup = .all) (T : Nat) :
    noteElapsed T s = creditPeriods (periods s T) s := by
  simp only [noteElapsed, h]

theorem noteElapsed_of_once_of_le {s : State} {T : Nat} (h : s.cfg.schedCatchup = .once)
    (hle : s.cfg.schedPeriod ≤ elapsed s T) : noteElapsed T s = creditPeriods 1 s := by
  simp only [noteElapsed, h, if_pos hle]

theorem noteElapsed_of_once_of_lt {s : State} {T : Nat} (h : s.cfg.schedCatchup = .once)
    (hlt : elapsed s T < s.cfg.schedPeriod) : noteElapsed T s = s := by
  simp only [noteElapsed, h, if_neg (Nat.not_le_of_lt hlt)]

/-- Settles O25: each policy's case is the crediting of its periods. -/
theorem noteElapsedCreditsPeriods : Obligations.NoteElapsedCreditsPeriods := by
  refine ⟨fun p _ t _ ht => ?_, fun s T hs hT => ?_⟩
  · exact congrArg (fun c => Except.ok (Instr.noteElapsed c)) (cycleOperand_of_fits (decide_eq_true ht))
  · rw [← elapsed_eq_elapsedCount hs hT]
    refine ⟨_, rfl, ?_, romByte_congr (noteElapsed_rom T s) (noteElapsed_cfg T s), fun hall => ?_, fun honce hle => ?_,
      fun honce hlt => ?_⟩
    · exact congrArg (State.returning · .unit) (noteElapsed_eq T s)
    · rw [noteElapsed_of_all hall]
      exact ⟨rfl, rfl⟩
    · rw [noteElapsed_of_once_of_le honce hle]
      simp
    · rw [noteElapsed_of_once_of_lt honce hlt]
      exact ⟨rfl, rfl⟩

/-! ### The phase -/

/-- Settles O26: what the credited periods take from the elapsed count is what the phase has moved by. -/
theorem phaseStaysAligned : Obligations.PhaseStaysAligned := by
  intro s T hperiod hs hT
  have hcredit : ∀ n, n * s.cfg.schedPeriod ≤ elapsed s T →
      n * s.cfg.schedPeriod + elapsedCount s.cfg.cycleBits (creditPeriods n s).lastSampled T = elapsed s T := by
    intro n hn
    have hphase : (creditPeriods n s).lastSampled < 2 ^ s.cfg.cycleBits := Nat.mod_lt _ (Nat.two_pow_pos _)
    have hmoved := elapsed_creditPeriods hn
    rw [elapsed_eq_elapsedCount (s := creditPeriods n s) hphase hT, creditPeriods_cfg] at hmoved
    omega
  rw [← elapsed_eq_elapsedCount hs hT]
  refine ⟨_, rfl, ?_⟩
  rw [State.returning_lastSampled]
  cases hpolicy : s.cfg.schedCatchup with
  | all =>
    rw [noteElapsed_of_all hpolicy]
    have hall := hcredit _ (Nat.div_mul_le_self (elapsed s T) s.cfg.schedPeriod)
    refine ⟨⟨_, rfl, hall⟩, fun _ => ?_⟩
    have hrest : elapsed s T < elapsed s T / s.cfg.schedPeriod * s.cfg.schedPeriod + s.cfg.schedPeriod :=
      Nat.lt_div_mul_add hperiod
    rw [periods]
    omega
  | once =>
    refine ⟨?_, nofun⟩
    rcases Nat.lt_or_ge (elapsed s T) s.cfg.schedPeriod with hlt | hle
    · rw [noteElapsed_of_once_of_lt hpolicy hlt]
      exact ⟨0, by simpa using (Nat.mod_eq_of_lt hs).symm, by simpa using (elapsed_eq_elapsedCount hs hT).symm⟩
    · rw [noteElapsed_of_once_of_le hpolicy hle]
      exact ⟨1, rfl, hcredit 1 (by simpa using hle)⟩

/-! ### The source's loop -/

theorem creditPeriods_zero {s : State} (hdebt : s.debt ≤ s.cfg.debtMax) (hphase : s.lastSampled < 2 ^ s.cfg.cycleBits) :
    creditPeriods 0 s = s := by
  ext1 <;> simp [hdebt, Nat.mod_eq_of_lt hphase]

/-- Clamping after each crediting gives what clamping once at the end gives (R187). -/
theorem creditPeriods_creditPeriods (m n : Nat) (s : State) :
    creditPeriods m (creditPeriods n s) = creditPeriods (n + m) s := by
  have hclamp : min s.cfg.debtMax (min s.cfg.debtMax (s.debt + n * s.cfg.schedUnit) + m * s.cfg.schedUnit) =
      min s.cfg.debtMax (s.debt + (n + m) * s.cfg.schedUnit) := by
    rw [Nat.add_mul]
    omega
  ext1 <;> simp [hclamp, Nat.add_mul, ← Nat.add_assoc]

/-- The loop credits a period a round, until less than a period is left (R187). -/
theorem noteLoop_eq_creditPeriods (T fuel : Nat) {s : State} (hperiod : 1 ≤ s.cfg.schedPeriod)
    (hdebt : s.debt ≤ s.cfg.debtMax) (hphase : s.lastSampled < 2 ^ s.cfg.cycleBits) :
    noteLoop T fuel s = creditPeriods (min fuel (periods s T)) s := by
  induction fuel generalizing s with
  | zero => rw [Nat.zero_min, creditPeriods_zero hdebt hphase, noteLoop]
  | succ fuel ih =>
    rcases Nat.lt_or_ge (elapsed s T) s.cfg.schedPeriod with hlt | hle
    · rw [periods, Nat.div_eq_of_lt hlt, Nat.min_zero, creditPeriods_zero hdebt hphase, noteLoop,
        if_neg (Nat.not_le_of_lt hlt)]
    · have hround : noteLoop T (fuel + 1) s = noteLoop T fuel (creditPeriods 1 s) := by
        simp [noteLoop, hle, creditPeriods, wrapCycles]
      have hperiods : periods (creditPeriods 1 s) T + 1 = periods s T := by
        rw [periods, periods, elapsed_creditPeriods (by simpa using hle), creditPeriods_cfg, Nat.one_mul]
        exact (Nat.div_eq_sub_div hperiod hle).symm
      rw [hround, ih (s := creditPeriods 1 s) hperiod (Nat.min_le_left ..) (Nat.mod_lt _ (Nat.two_pow_pos _)),
        creditPeriods_creditPeriods, ← hperiods, Nat.add_comm 1, Nat.add_min_add_right]

/-- Settles O27: both are the crediting of the whole elapsed periods. -/
theorem closedFormIsTheLoop : Obligations.ClosedFormIsTheLoop := by
  intro s T hall hperiod hdebt hs hT
  rw [← elapsed_eq_elapsedCount hs hT]
  have hloop : ∀ k, noteLoop T (periods s T + k) s = creditPeriods (periods s T) s := fun k => by
    rw [noteLoop_eq_creditPeriods T _ hperiod hdebt hs, Nat.min_eq_right (Nat.le_add_right ..)]
  refine ⟨?_, fun k => (hloop k).trans (hloop 0).symm⟩
  exact congrArg (fun t : State => Host.Outcome.next (t.returning .unit)) ((noteElapsed_of_all hall T).trans (hloop 0).symm)

/-! ### Exact periods -/

/-- The clamped sum is the sum with what fits under the ceiling (R34, R185). -/
theorem creditPeriods_debt_eq {s : State} (hdebt : s.debt ≤ s.cfg.debtMax) (n : Nat) :
    (creditPeriods n s).debt = s.debt + min (n * s.cfg.schedUnit) (s.cfg.debtMax - s.debt) := by
  rw [creditPeriods_debt]
  omega

/-- Settles O28: the elapsed count has grown by `k` periods, which the pending part of a period does not make one more. -/
theorem exactPeriodsGiveExactDebt : Obligations.ExactPeriodsGiveExactDebt := by
  intro s T0 k hperiod hdebt hs hT0 hadvance
  have helapsed : elapsed s ((T0 + s.cfg.schedPeriod * k) % 2 ^ s.cfg.cycleBits) =
      elapsedCount s.cfg.cycleBits s.lastSampled T0 + s.cfg.schedPeriod * k :=
    (elapsed_eq_elapsedCount hs (Nat.mod_lt _ (Nat.two_pow_pos _))).trans (elapsedCount_advance hs hT0 hadvance)
  refine ⟨_, rfl, fun hall hpending => ?_, fun honce hk => ?_⟩
  · have hperiods : periods s ((T0 + s.cfg.schedPeriod * k) % 2 ^ s.cfg.cycleBits) = k := by
      rw [periods, helapsed, Nat.add_mul_div_left _ _ hperiod, Nat.div_eq_of_lt hpending, Nat.zero_add]
    rw [State.returning_debt, noteElapsed_of_all hall, hperiods, creditPeriods_debt_eq hdebt]
  · have hle : s.cfg.schedPeriod ≤ elapsed s ((T0 + s.cfg.schedPeriod * k) % 2 ^ s.cfg.cycleBits) :=
      helapsed ▸ (Nat.le_mul_of_pos_right _ hk).trans (Nat.le_add_left ..)
    rw [State.returning_debt, noteElapsed_of_once_of_le honce hle, creditPeriods_debt_eq hdebt, Nat.one_mul]

/-! ### CONSUME -/

/-- Settles O29: the debt goes down by one, truncated at 0, and the result says whether any was owed. -/
theorem consumeTakesOneUnit : Obligations.ConsumeTakesOneUnit := by
  refine ⟨fun _ _ _ _ => rfl, fun s => ?_⟩
  have hexec : exec .consume s = .next { s with debt := s.debt - 1, result := .bool (debtOwed s) } :=
    congrArg (fun t : State => Host.Outcome.next (t.returning (.bool (debtOwed s)))) (consumeOne_eq s)
  refine ⟨_, hexec, rfl, fun _ => rfl, fun howed => ⟨Nat.sub_add_cancel howed, ?_⟩, fun hnone => ⟨?_, ?_⟩⟩
  · exact congrArg Result.bool (decide_eq_true howed)
  · simp [hnone]
  · simp [debtOwed, hnone]

end Sys2Proof.Machine
end

section
/-!
The bus arbiter (spec/44_bus_arbiter.md): the glitch filter (R205), the ROM path (R211, R218, R220), the LOW path (R212-R216),
what one iteration can record and take (R204, R217, R219), and that the loop never halts (R221).
-/
namespace Sys2Proof.Machine

/-! ### The discarded iteration -/

theorem glitched_eq_true {s : State} {b : BusSample} {a2 : Addr} (hfilter : s.cfg.glitchFilter = true)
    (hne : a2 ≠ b.addr) : glitched s b a2 = true := by
  simp [glitched, hfilter, hne]

theorem exec_busIterate_discarded {s : State} {b : BusSample} {a2 : Addr} (T : Nat)
    (hfilter : s.cfg.glitchFilter = true) (hne : a2 ≠ b.addr) :
    exec (.busIterate b T a2) s = .next (s.returning .unit) :=
  if_pos (glitched_eq_true hfilter hne)

/-- Settles O32: each path stands behind the filter's test, which alone reads the second sample. -/
theorem glitchedIterationIsDiscarded : Obligations.GlitchedIterationIsDiscarded := by
  refine ⟨fun s b T a2 hfilter hne => ?_, fun s b T a2 hfilter => ?_⟩
  · have hglitch := glitched_eq_true hfilter hne
    refine ⟨exec_busIterate_discarded T hfilter hne, ?_, if_pos hglitch, if_pos hglitch, ?_⟩
    · exact congrArg (fun u : State => Host.Outcome.next (u.returning .unit)) (if_pos hglitch)
    · exact congrArg (fun u : State => Host.Outcome.next (u.returning .unit)) (if_pos hglitch)
  · have hkept (second : Addr) : glitched s b second = false :=
      glitched_eq_false fun hon => absurd hon (by simp [hfilter])
    simp only [exec, execBusIterate, hkept]

/-! ### What each class answers where the filter does not discard -/

section Classes

variable {s : State} {b : BusSample} {a2 : Addr} (T : Nat)

theorem exec_busRom (h : s.cfg.glitchFilter = true → a2 = b.addr) :
    exec (.busRom b T a2) s = .next ((romPath b T s).returning .unit) := by
  simp [exec, execBusRom, glitched_eq_false h]

theorem exec_busLowDma (h : s.cfg.glitchFilter = true → a2 = b.addr) :
    exec (.busLowDma b T a2) s = .next ((enterLow T s).returning .unit) := by
  simp [exec, execBusLowDma, glitched_eq_false h]

theorem exec_busLowActive (h : s.cfg.glitchFilter = true → a2 = b.addr) :
    exec (.busLowActive b T a2) s = synthesis (lowAccount T s) := by
  simp [exec, execBusLowActive, glitched_eq_false h, lowActivePath]

end Classes

theorem classify_eq_rom_iff (p : Params) (b : BusSample) :
    classify p b = .rom ↔ p.romBase.toNat ≤ b.addr.toNat := by
  obtain ⟨hrom, -⟩ := classify_eq_iff p b
  rw [hrom, inRom_eq_true_iff]

theorem classify_eq_lowDma_iff (p : Params) (b : BusSample) :
    classify p b = .lowDma ↔ b.addr.toNat < p.romBase.toNat ∧ b.cpuActive = false := by
  obtain ⟨-, -, -, hdma⟩ := classify_eq_iff p b
  rw [hdma, inRom_eq_false_iff]

/-! ### Accounting inside an iteration -/

/-- Accounting in a state `u` of the iteration does to debt and phase what the policy asks: nothing, or what NOTE_ELAPSED
does in a state `s` with the same parameters, debt and phase (R216). -/
theorem account_ledger (ps : List AccountPolicy) (T : Nat) {s u : State} (hcfg : u.cfg = s.cfg) (hdebt : u.debt = s.debt)
    (hphase : u.lastSampled = s.lastSampled) :
    (s.cfg.accountPolicy ∉ ps → (account ps T u).debt = s.debt ∧ (account ps T u).lastSampled = s.lastSampled) ∧
    (s.cfg.accountPolicy ∈ ps → ∃ v, exec (.noteElapsed T) s = .next v ∧ (account ps T u).debt = v.debt ∧
      (account ps T u).lastSampled = v.lastSampled) := by
  rw [← hcfg]
  rcases account_cases ps T u with ⟨hin, h⟩ | ⟨hout, h⟩ <;> rw [h]
  · exact ⟨fun hout => absurd hin hout, fun _ => ⟨_, rfl, noteElapsed_congr T hcfg hdebt hphase⟩⟩
  · exact ⟨fun _ => ⟨hdebt, hphase⟩, fun hin => absurd hin hout⟩

/-- Accounting takes no debt away, but for what stands above the ceiling (R181, R183). -/
theorem noteElapsed_debt_ge (T : Nat) (s : State) : min s.debt s.cfg.debtMax ≤ (noteElapsed T s).debt := by
  have hcredit (n : Nat) : min s.debt s.cfg.debtMax ≤ (creditPeriods n s).debt := by
    rw [creditPeriods_debt]
    omega
  unfold noteElapsed
  split
  · exact hcredit _
  · split
    · exact hcredit 1
    · exact Nat.min_le_left ..

theorem account_debt_ge (ps : List AccountPolicy) (T : Nat) (s : State) :
    min s.debt s.cfg.debtMax ≤ (account ps T s).debt := by
  rcases account_cases ps T s with ⟨-, h⟩ | ⟨-, h⟩ <;> rw [h]
  · exact noteElapsed_debt_ge T s
  · exact Nat.min_le_left ..

theorem romPath_debt_ge (b : BusSample) (T : Nat) (s : State) : min s.debt s.cfg.debtMax ≤ (romPath b T s).debt := by
  simpa [romPath] using account_debt_ge [.everyIteration] T (drive b.addr (markHostWrite b s))

theorem enterLow_debt_ge (T : Nat) (s : State) : min s.debt s.cfg.debtMax ≤ (enterLow T s).debt := by
  simpa [enterLow] using account_debt_ge [.everyIteration, .lowAny] T (release s)

theorem lowAccount_debt_ge (T : Nat) (s : State) : min s.debt s.cfg.debtMax ≤ (lowAccount T s).debt := by
  simpa [lowAccount_eq] using noteElapsed_debt_ge T (release s)

/-! ### The ROM path -/

theorem romPath_sameEngine (b : BusSample) (T : Nat) (s : State) : SameEngine s (romPath b T s) := by
  simp [SameEngine]

/-- Settles O31: everything but the marks, the debt and the phase is given, and these change by the strobe and the policy. -/
theorem romIterationDrives : Obligations.RomIterationDrives := by
  intro s b T a2 hrom hglitch
  have hexec := exec_busRom T hglitch
  have hclass := (classify_eq_rom_iff ..).mpr hrom
  obtain ⟨hidle, hasked⟩ := account_ledger (s := s) (u := drive b.addr (markHostWrite b s)) [.everyIteration] T
    (by simp) (by simp) (by simp)
  simp only [List.mem_singleton] at hidle hasked
  refine ⟨_, hexec, by rw [iterationIsItsClass, decodeBus, hclass, hexec], ?_,
    romByte_congr (by simp) (by simp), romPath_sameEngine b T s, fun hread => ?_, fun hwrite f => ?_, hidle, hasked⟩
  · ext1 <;> simp
  · simp [romPath_faulted, hread]
  · rw [State.returning_faulted, romPath_faulted]
    split
    · simp
    · next hmarked =>
      have hmark : Fault.hostWriteInRomRegion ∈ s.faulted := by simpa [hwrite] using hmarked
      exact ⟨.inl, fun hf => hf.elim id (· ▸ hmark)⟩

/-- Settles O40: the iteration is discarded, or it is the ROM path, which does no engine work. -/
theorem romIterationDoesNoSynthesis : Obligations.RomIterationDoesNoSynthesis := by
  intro s t b T a2 hrom h
  rw [iterationIsItsClass, decodeBus, (classify_eq_rom_iff ..).mpr hrom] at h
  obtain rfl := Host.Outcome.next.inj h
  split
  · exact ⟨by simp [SameEngine], rfl, fun _ => le_rfl⟩
  · refine ⟨romPath_sameEngine b T s, by simp [countEvents, Event.isEmit], fun hbound => ?_⟩
    exact (Nat.min_eq_left hbound).ge.trans (romPath_debt_ge b T s)

/-! ### The LOW path without the host CPU -/

/-- Settles O33: the release, and the accounting of the two policies that ask for it without the host CPU. -/
theorem dmaIterationOnlyReleases : Obligations.DmaIterationOnlyReleases := by
  intro s b T a2 hlow hcpu hglitch
  have hexec := exec_busLowDma T hglitch
  have hclass := (classify_eq_lowDma_iff ..).mpr ⟨hlow, hcpu⟩
  obtain ⟨hidle, hasked⟩ := account_ledger (s := s) (u := release s) [.everyIteration, .lowAny] T
    (by simp) (by simp) (by simp)
  have hpolicy : s.cfg.accountPolicy ∈ [AccountPolicy.everyIteration, .lowAny] ↔ s.cfg.accountPolicy ≠ .lowCpuActive := by
    cases s.cfg.accountPolicy <;> simp
  refine ⟨_, hexec, by rw [iterationIsItsClass, decodeBus, hclass, hexec], ?_,
    romByte_congr (by simp) (by simp), fun h => hidle fun hin => hpolicy.mp hin h, fun h => hasked (hpolicy.mpr h)⟩
  ext1 <;> simp

/-! ### The LOW path with the host CPU -/

/-- Every class of write stores the raw byte in the register of its index and in no other (R142). -/
theorem writeRegister_regs (idx : BitVec 4) (v : Byte) (s : State) :
    (writeRegister idx v s).regs = (s.setReg idx v).regs := by
  unfold writeRegister
  split
  · next h9 => subst h9; rfl
  · split
    · rfl
    · next h3 =>
      split
      · rfl
      · next h0 =>
        have hindex := divIndex_of_low_even (Bool.eq_false_iff.mpr h3) (Bool.eq_false_iff.mpr h0)
        change (s.setReg (divIndex _) v).regs = _
        rw [hindex]

/-- Settles O34: of the sub-steps only the sniff writes a register. -/
theorem sniffedWriteReachesRegister : Obligations.SniffedWriteReachesRegister := by
  intro s b T a2 hclass hglitch htick
  have hexec := (exec_busRegWrite T hglitch).trans (synthesis_next (by simpa using htick))
  refine ⟨_, hexec, by rw [iterationIsItsClass, decodeBus, hclass, hexec], fun i => ?_, by simp, by simp, rfl,
    romByte_congr (by simp) (by simp)⟩
  have hindex : (regIndex b.addr).toNat = b.addr.toNat % 16 := by
    rw [regIndex, field_toNat]
    omega
  rw [State.returning_regs, paySynthesis_regs, sniff, writeRegister_regs, State.setReg_getElem, hindex, lowAccount_regs]

/-- Settles O35: NOTE_ELAPSED stands behind the release under every policy, and sub-step (3) is CONSUME and ADVANCE. -/
theorem activeIterationIsItsSubSteps : Obligations.ActiveIterationIsItsSubSteps := by
  intro s b T a2 hclass hglitch htick
  obtain ⟨s2, t, hconsume, hsynthesis, hidle, hpaid⟩ :=
    synthesis_is_consume_advance (s := (lowAccount T s).returning .unit) (by simpa using htick)
  rw [synthesis_returning] at hsynthesis
  have hexec := (exec_busLowActive T hglitch).trans hsynthesis
  exact ⟨_, s2, t, exec_noteElapsed_released T s, hconsume, hexec,
    by rw [iterationIsItsClass, decodeBus, hclass, hexec], hidle, by simpa using hpaid⟩

/-! ### What one iteration records and takes -/

/-- The tail of the events that sub-step (3) may record: nothing, or one sample (R214, R215). -/
def AtMostOneSample (es : List Event) : Prop := es = [] ∨ ∃ v, es = [.emitSample v]

theorem paySynthesis_events (s : State) :
    ∃ es, (paySynthesis s).events = s.events ++ es ∧ AtMostOneSample es := by
  rcases paySynthesis_cases s with ⟨-, h⟩ | ⟨-, -, h⟩ | ⟨-, -, h⟩ <;> rw [h]
  · exact ⟨[], by simp, .inl rfl⟩
  · exact ⟨[], by simp, .inl rfl⟩
  · exact ⟨_, congrArg (· ++ _) (advanceOneStep_events _), .inr ⟨_, rfl⟩⟩

/-- Sub-step (3) takes at most one unit of debt (R214). -/
theorem paySynthesis_debt (s : State) : (paySynthesis s).debt = s.debt - 1 := by
  rcases paySynthesis_cases s with ⟨hzero, h⟩ | ⟨-, -, h⟩ | ⟨-, -, h⟩ <;> rw [h]
  · omega
  · simp
  · simp

/-- What an iteration in the LOW region leaves: the bus is released if it was driven, then a sample may follow (R212). -/
structure LowTrace (s t : State) : Prop where
  driving : t.driving = false
  events : ∃ es, t.events = s.events ++ (if s.driving then [.releaseBus] else []) ++ es ∧ AtMostOneSample es

theorem LowTrace.of_enterLow (T : Nat) (s : State) : LowTrace s ((enterLow T s).returning .unit) :=
  ⟨by simp, [], by simp, .inl rfl⟩

theorem LowTrace.of_synthesis {s t u : State} (hdriving : u.driving = false)
    (hevents : u.events = s.events ++ if s.driving then [.releaseBus] else []) (h : synthesis u = .next t) :
    LowTrace s t := by
  obtain ⟨rfl, -⟩ := synthesis_cases h
  obtain ⟨es, hes, hsample⟩ := paySynthesis_events u
  exact ⟨by simpa using hdriving, es, by simpa [hevents] using hes, hsample⟩

/-- What an iteration that is not discarded leaves: in the ROM region the bus is driven, below it released (R204). -/
theorem exec_busIterate_trace {s t : State} {b : BusSample} {T : Nat} {a2 : Addr}
    (hglitch : s.cfg.glitchFilter = true → a2 = b.addr) (h : exec (.busIterate b T a2) s = .next t) :
    (s.cfg.romBase.toNat ≤ b.addr.toNat ∧ t.driving = true ∧ t.events = s.events ++ [.driveData (romByte s b.addr)]) ∨
    (b.addr.toNat < s.cfg.romBase.toNat ∧ LowTrace s t) := by
  rw [iterationIsItsClass, decodeBus] at h
  rcases Nat.lt_or_ge b.addr.toNat s.cfg.romBase.toNat with hlow | hrom
  · refine .inr ⟨hlow, ?_⟩
    cases hclass : classify s.cfg b <;> rw [hclass] at h
    case rom => exact absurd ((classify_eq_rom_iff ..).mp hclass) hlow.not_ge
    case regWrite =>
      rw [exec_busRegWrite T hglitch] at h
      exact .of_synthesis (by simp) (by simp) h
    case lowActive =>
      rw [exec_busLowActive T hglitch] at h
      exact .of_synthesis (by simp) (by simp) h
    case lowDma =>
      rw [exec_busLowDma T hglitch] at h
      obtain rfl := Host.Outcome.next.inj h
      exact .of_enterLow T s
  · rw [(classify_eq_rom_iff ..).mpr hrom, exec_busRom T hglitch] at h
    obtain rfl := Host.Outcome.next.inj h
    exact .inl ⟨hrom, by simp, by simp⟩

@[simp] theorem countEvents_append (p : Event → Bool) (es es' : List Event) :
    countEvents p (es ++ es') = countEvents p es + countEvents p es' := List.countP_append

namespace AtMostOneSample

variable {es : List Event}

theorem countDrive (h : AtMostOneSample es) : countEvents Event.isDrive es = 0 := by
  rcases h with rfl | ⟨v, rfl⟩ <;> rfl

theorem countRelease (h : AtMostOneSample es) : countEvents Event.isRelease es = 0 := by
  rcases h with rfl | ⟨v, rfl⟩ <;> rfl

theorem countEmit (h : AtMostOneSample es) : countEvents Event.isEmit es ≤ 1 := by
  rcases h with rfl | ⟨v, rfl⟩
  · exact Nat.zero_le 1
  · exact le_rfl

end AtMostOneSample

/-- Settles O41: the ROM path drives and records no release; the LOW path records one exactly if the bus was driven. -/
theorem releaseOnlyOnFallingEdge : Obligations.ReleaseOnlyOnFallingEdge := by
  intro s t b T a2 hglitch h
  rcases exec_busIterate_trace hglitch h with ⟨hrom, hdriving, hevents⟩ | ⟨hlow, hdriving, es, hevents, hsample⟩
  · refine ⟨by simp [hdriving, hrom], ?_⟩
    rw [hevents, countEvents_append, if_neg (fun hedge => hedge.2.not_ge hrom)]
    rfl
  · refine ⟨by simp [hdriving, hlow], ?_⟩
    rw [hevents, countEvents_append, countEvents_append, hsample.countRelease]
    cases s.driving
    · rfl
    · simp [hlow, countEvents, Event.isRelease]

/-- An iteration takes at most one unit of debt below what was owed or its ceiling (R217). -/
theorem BusEffect.debt_ge {b : BusSample} {T : Nat} {s t : State} (h : BusEffect b T s t) :
    min s.debt s.cfg.debtMax ≤ t.debt + 1 := by
  have hlow := lowAccount_debt_ge T s
  cases h with
  | discarded => exact (Nat.min_le_left ..).trans (Nat.le_succ _)
  | rom => exact (romPath_debt_ge b T s).trans (Nat.le_succ _)
  | dma => exact (enterLow_debt_ge T s).trans (Nat.le_succ _)
  | active =>
    rw [State.returning_debt, paySynthesis_debt]
    omega
  | sniffed =>
    rw [State.returning_debt, paySynthesis_debt, sniff_debt]
    omega

/-- The events of one iteration: at most one of each kind, and no drive beside a release (R217). -/
def OneOfEach (es : List Event) : Prop :=
  countEvents Event.isDrive es ≤ 1 ∧ countEvents Event.isRelease es ≤ 1 ∧ countEvents Event.isEmit es ≤ 1 ∧
    (countEvents Event.isDrive es = 0 ∨ countEvents Event.isRelease es = 0)

theorem oneOfEach_nil : OneOfEach [] := by
  unfold OneOfEach
  decide

theorem oneOfEach_drive (v : Byte) : OneOfEach [.driveData v] := by
  simp [OneOfEach, countEvents, Event.isDrive, Event.isRelease, Event.isEmit]

theorem AtMostOneSample.oneOfEach_release {es : List Event} (h : AtMostOneSample es) (driven : Bool) :
    OneOfEach ((if driven then [.releaseBus] else []) ++ es) := by
  have hdrive : countEvents Event.isDrive (if driven then [.releaseBus] else []) = 0 := by cases driven <;> rfl
  have hrelease : countEvents Event.isRelease (if driven then [.releaseBus] else []) ≤ 1 := by cases driven <;> decide
  have hemit : countEvents Event.isEmit (if driven then [.releaseBus] else []) = 0 := by cases driven <;> rfl
  have hsample := h.countEmit
  unfold OneOfEach
  simp only [countEvents_append, h.countDrive, h.countRelease]
  omega

theorem exec_busIterate_oneOfEach {s t : State} {b : BusSample} {T : Nat} {a2 : Addr}
    (h : exec (.busIterate b T a2) s = .next t) : ∃ es, t.events = s.events ++ es ∧ OneOfEach es := by
  by_cases hglitch : s.cfg.glitchFilter = true → a2 = b.addr
  · rcases exec_busIterate_trace hglitch h with ⟨-, -, hevents⟩ | ⟨-, -, es, hevents, hsample⟩
    · exact ⟨_, hevents, oneOfEach_drive _⟩
    · exact ⟨_, hevents.trans (List.append_assoc ..), hsample.oneOfEach_release _⟩
  · obtain ⟨hfilter, hne⟩ := Classical.not_imp.mp hglitch
    rw [exec_busIterate_discarded T hfilter hne] at h
    obtain rfl := Host.Outcome.next.inj h
    exact ⟨[], by simp, oneOfEach_nil⟩

/-- Settles O39: the events follow from the iteration's trace, the debt from the states it can lead to. -/
theorem iterationEmitsAtMostOneOfEach : Obligations.IterationEmitsAtMostOneOfEach := by
  intro s t b T a2 h
  obtain ⟨es, hevents, hdrive, hrelease, hemit, hboth⟩ := exec_busIterate_oneOfEach h
  have hdebt := (BusEffect.of_exec b T a2 (.inl rfl) h).debt_ge
  rw [← (exec_retains h).cfg] at hdebt
  exact ⟨es, hevents, hdrive, hrelease, hemit, hboth, hdebt⟩

/-! ### The loop never halts -/

/-- From a legal tick state every iteration answers a next state: only sub-step (3) can refuse (R150, R214). -/
theorem exec_busIterate_next {s : State} (b : BusSample) (T : Nat) (a2 : Addr) (htick : s.step.toNat ≤ 8) :
    ∃ t, exec (.busIterate b T a2) s = .next t := by
  change ∃ t, execBusIterate b T a2 s = .next t
  unfold execBusIterate
  split
  · exact ⟨_, rfl⟩
  · split
    · exact ⟨_, rfl⟩
    · split
      · exact ⟨_, rfl⟩
      · refine ⟨_, synthesis_next ?_⟩
        split <;> simpa using htick

/-- With a BUS word placed first, or with nothing placed, what is handed over is a bus sample (R200). -/
theorem fetch_bus {s : State} (h : s.inputs = [] ∨ ∃ w T a2 rest, s.inputs = .bus w T a2 :: rest) :
    ∃ w T a2, (fetch s).1 = .bus w T a2 ∧ (fetch s).2.step = s.step := by
  unfold fetch
  rcases h with h | ⟨w, T, a2, rest, h⟩ <;> rw [h] <;> exact ⟨_, _, _, rfl, rfl⟩

/-- Settles O43: every BUS word decodes to its sample's class, which is an iteration on that sample. -/
theorem everyBusSampleHasNextState : Obligations.EveryBusSampleHasNextState := by
  intro s hmark hparams htick hinputs
  obtain ⟨w, T, a2, hbus, hstep⟩ := fetch_bus hinputs
  have hs : stateRefusal s = none := (stateRefusal_eq_none_iff s).mpr ⟨hmark, hparams, htick⟩
  obtain ⟨t, ht⟩ := exec_busIterate_next (s := (fetch s).2) (busOfWord w) (cycleOperand (fetch s).2.cfg T) a2
    (by rwa [hstep])
  rw [iterationIsItsClass] at ht
  exact ⟨t, (step_eq_exec_of_decode hs (by rw [hbus, decode])).trans ht⟩

end Sys2Proof.Machine
end

section
/-!
The refusals of a state (spec/60_exceptions.md, R233): each reason for which a state has no step, and the mark that a refused
step leaves (R41).
-/
namespace Sys2Proof.Machine

/-! ### The reasons of R233 -/

/-- The mark's own reason goes before the other two (log entry 17). -/
theorem stateRefusal_of_marked {s : State} {r : Refusal} (hmark : s.refused = some r) : stateRefusal s = some r := by
  simp only [stateRefusal, hmark]

theorem stateRefusal_of_badConfig {s : State} (hmark : s.refused = none) (hparams : paramsValid s.cfg = false) :
    stateRefusal s = some .badConfig := by
  simp [stateRefusal, hmark, hparams]

theorem stateRefusal_of_badTick {s : State} (hmark : s.refused = none) (hparams : paramsValid s.cfg = true)
    (htick : 8 < s.step.toNat) : stateRefusal s = some .badTickState := by
  simp [stateRefusal, hmark, hparams, badTick, htick]

theorem step_eq_refused_of_stateRefusal {s : State} {r : Refusal} (hs : stateRefusal s = some r) :
    step s = .refused r := by
  simp only [step, hs]

theorem step_eq_refused_of_marked {s : State} {r : Refusal} (hmark : s.refused = some r) : step s = .refused r :=
  step_eq_refused_of_stateRefusal (stateRefusal_of_marked hmark)

/-- Settles O55: each clause is one reason of R233, and a step answers the state's reason before it fetches. -/
theorem refusedStatesHaveNoStep : Obligations.RefusedStatesHaveNoStep := by
  intro s
  refine ⟨fun r hmark => ?_, fun hmark hparams => ?_, fun hmark hparams htick => ?_⟩
  · exact step_eq_refused_of_marked hmark
  · exact step_eq_refused_of_stateRefusal (stateRefusal_of_badConfig hmark hparams)
  · exact step_eq_refused_of_stateRefusal (stateRefusal_of_badTick hmark hparams htick)

/-! ### The sticky mark -/

/-- A refused step leaves its reason as the mark: a mark already there is the reason that the step answered (R233). -/
theorem settle_refused_of_step {s : State} {r : Refusal} (h : step s = .refused r) :
    (settle s (.refused r)).refused = some r := by
  change some (s.refused.getD r) = some r
  cases hmark : s.refused with
  | none => rfl
  | some r' =>
    have hanswer : Host.Outcome.refused r' = .refused r := (step_eq_refused_of_marked hmark).symm.trans h
    exact congrArg some (Host.Outcome.refused.inj hanswer)

/-- Settles O56: the kept state is marked with the step's reason, and a marked state has no step. -/
theorem refusalIsSticky : Obligations.RefusalIsSticky := by
  intro s r h
  rw [h]
  have hmark := settle_refused_of_step h
  exact ⟨hmark, step_eq_refused_of_marked hmark⟩

end Sys2Proof.Machine
end

section
/-!
The whole-block reset and the block with nothing to do (spec/70_reset_and_hazards.md): the values that BLOCK_RESET restores
(R260, R186), and that the loop of bus iterations runs on where nothing is placed (R262).
-/
namespace Sys2Proof.Machine

/-! ### BLOCK_RESET -/

theorem decode_blockResetWord (p : Params) (bus : BitVec 26) (c0 : Nat) (a2 : Addr) :
    decode p (.cmd 0x7000 bus c0 a2) = .ok (.blockReset (cycleOperand p c0)) := rfl

theorem wrapCycles_of_lt {p : Params} {t : Nat} (h : t < 2 ^ p.cycleBits) : wrapCycles p t = t := Nat.mod_eq_of_lt h

theorem exec_blockReset (c0 : Nat) (s : State) : exec (.blockReset c0) s = .next ((blockReset c0 s).returning .unit) := rfl

theorem blockReset_reg (c0 : Nat) (s : State) (i : Fin 16) : (blockReset c0 s).regs[i] = 0 :=
  Vector.getElem_replicate i.isLt

theorem blockReset_channel (c0 : Nat) (s : State) (c : Chan) :
    (blockReset c0 s).ch[c] = { divisor := 0, counter := 0, out := false } :=
  Vector.getElem_replicate c.isLt

theorem blockReset_lastSampled {c0 : Nat} {s : State} (h : c0 < 2 ^ s.cfg.cycleBits) :
    (blockReset c0 s).lastSampled = c0 := wrapCycles_of_lt h

/-- Settles O44: an operand that fits the cycle counter is cut neither by the decoder nor by the reset. -/
theorem blockResetRestoresResetState : Obligations.BlockResetRestoresResetState := by
  refine ⟨fun p bus c0 a2 hfits => ?_, fun s c0 hfits => ⟨_, exec_blockReset c0 s, ?_, ?_, ?_, ?_⟩⟩
  · rw [decode_blockResetWord, cycleOperand_of_fits (decide_eq_true hfits)]
  · exact congrArg (fun phase => { (blockReset c0 s).returning .unit with lastSampled := phase })
      (blockReset_lastSampled hfits)
  · exact blockReset_reg c0 s
  · exact blockReset_channel c0 s
  · exact romByte_congr (blockReset_rom c0 s) (blockReset_cfg c0 s)

/-! ### The idle step -/

theorem fetch_of_inputs_nil {s : State} (h : s.inputs = []) :
    fetch s = (drawInput s.fresh, { s with fresh := s.fresh + 1 }) := by
  simp only [fetch, h]

theorem cycleOperand_lt (p : Params) (T : Nat) : cycleOperand p T < 2 ^ p.cycleBits :=
  of_decide_eq_true (cycleFits_cycleOperand p T)

/-- Settles O54: the draw decodes to its sample's class, and the class's meaning is BUS_ITERATE on the sample. -/
theorem idleStepIsBusIteration : Obligations.IdleStepIsBusIteration := by
  intro s hmark hparams htick hinputs
  have hs : stateRefusal s = none := (stateRefusal_eq_none_iff s).mpr ⟨hmark, hparams, htick⟩
  have hfetch := fetch_of_inputs_nil hinputs
  refine ⟨busOfWord (Config.drawBus s.fresh), cycleOperand s.cfg (Config.drawCycle s.fresh), Config.drawSecond s.fresh,
    cycleOperand_lt .., ?_⟩
  have hstep := step_eq_exec_of_decode hs (by rw [hfetch, drawInput, decode])
  rw [hfetch] at hstep
  exact hstep.trans (iterationIsItsClass ..).symm

end Sys2Proof.Machine
end
